-- ==== Sys2Proof/Word.lean ====
section
/-! DEFINITION. The word and byte types of IMR-CTL. -/

namespace Sys2Proof

/-- One register of the block: 32 bits, unsigned (R15, R22). -/
abbrev Word := BitVec 32

/-- One byte of the flash space, of a UID or of a tag data block (R36, R37, R71). -/
abbrev Byte := BitVec 8

end Sys2Proof
end

