-- ==== Sys2Proof/Syntax.lean ====
section
/-! DEFINITION. The instructions of IMR-CTL: one constructor per row of the opcode table, in the
table's order, and the names of the error causes. The block runs no program (spec R7): its instructions are the host's
word accesses (format BUS), the command words (CMD), and the requests the block issues on its reader port (RDR) and
its flash port (FLP). -/

namespace Sys2Proof

/-- One instruction of the block (R7, R101, R103, R106, R108). A bus write carries its 32-bit `wdata` (R100); no other
form has an operand (R102, R104). -/
inductive Instr where
  /-- NOP: CMD word 0x00000000 (R103), rule R251. -/
  | nop
  /-- SESSION_CLOSE: CMD word 0x00000001 (R103), rule R250. -/
  | sessionClose
  /-- COMMIT: CMD word 0x00000002 (R103), rule R253. -/
  | commit
  /-- LOAD: CMD word 0x00000003 (R103), rule R253. -/
  | load
  /-- SET_SWCTX: CMD word 0x00000004 (R103), rule R252. -/
  | setSwctx
  /-- RD_ID: BUS descriptor 0x200 (R101), rule R242. -/
  | rdId
  /-- RD_CTRL: BUS descriptor 0x204 (R101), rule R242. -/
  | rdCtrl
  /-- RD_STATUS: BUS descriptor 0x208 (R101), rule R242. -/
  | rdStatus
  /-- RD_FLAGS: BUS descriptor 0x20C (R101), rule R242. -/
  | rdFlags
  /-- RD_IRQ_EN: BUS descriptor 0x210 (R101), rule R242. -/
  | rdIrqEn
  /-- RD_CMD: BUS descriptor 0x214 (R101), rule R242. -/
  | rdCmd
  /-- RD_KEY: BUS descriptor 0x218 (R101), rule R242. -/
  | rdKey
  /-- RD_ERR: BUS descriptor 0x21C (R101), rule R242. -/
  | rdErr
  /-- RD_DB_PERIOD: BUS descriptor 0x220 (R101), rule R242. -/
  | rdDbPeriod
  /-- RD_POLL_PERIOD: BUS descriptor 0x224 (R101), rule R242. -/
  | rdPollPeriod
  /-- RD_XCV_TIMEOUT: BUS descriptor 0x228 (R101), rule R242. -/
  | rdXcvTimeout
  /-- RD_DISP_PERIOD: BUS descriptor 0x22C (R101), rule R242. -/
  | rdDispPeriod
  /-- RD_DB_COUNT: BUS descriptor 0x230 (R101), rule R242. -/
  | rdDbCount
  /-- RD_POLL_COUNT: BUS descriptor 0x234 (R101), rule R242. -/
  | rdPollCount
  /-- RD_XCV_COUNT: BUS descriptor 0x238 (R101), rule R242. -/
  | rdXcvCount
  /-- RD_DISP_COUNT: BUS descriptor 0x23C (R101), rule R242. -/
  | rdDispCount
  /-- RD_TAG_UIDLEN: BUS descriptor 0x240 (R101), rule R242. -/
  | rdTagUidlen
  /-- RD_TAG_UID0: BUS descriptor 0x244 (R101), rule R242. -/
  | rdTagUid0
  /-- RD_TAG_UID1: BUS descriptor 0x248 (R101), rule R242. -/
  | rdTagUid1
  /-- RD_TAG_UID2: BUS descriptor 0x24C (R101), rule R242. -/
  | rdTagUid2
  /-- RD_TAG_DATA0: BUS descriptor 0x250 (R101), rule R242. -/
  | rdTagData0
  /-- RD_TAG_DATA1: BUS descriptor 0x254 (R101), rule R242. -/
  | rdTagData1
  /-- RD_TAG_DATA2: BUS descriptor 0x258 (R101), rule R242. -/
  | rdTagData2
  /-- RD_TAG_DATA3: BUS descriptor 0x25C (R101), rule R242. -/
  | rdTagData3
  /-- RD_LEDGER0: BUS descriptor 0x260 (R101), rule R242. -/
  | rdLedger0
  /-- RD_LEDGER1: BUS descriptor 0x264 (R101), rule R242. -/
  | rdLedger1
  /-- RD_LEDGER2: BUS descriptor 0x268 (R101), rule R242. -/
  | rdLedger2
  /-- RD_LEDGER3: BUS descriptor 0x26C (R101), rule R242. -/
  | rdLedger3
  /-- RD_LEDGER4: BUS descriptor 0x270 (R101), rule R242. -/
  | rdLedger4
  /-- RD_LEDGER5: BUS descriptor 0x274 (R101), rule R242. -/
  | rdLedger5
  /-- RD_LEDGER6: BUS descriptor 0x278 (R101), rule R242. -/
  | rdLedger6
  /-- RD_LEDGER7: BUS descriptor 0x27C (R101), rule R242. -/
  | rdLedger7
  /-- RD_LEDGER8: BUS descriptor 0x280 (R101), rule R242. -/
  | rdLedger8
  /-- RD_LEDGER9: BUS descriptor 0x284 (R101), rule R242. -/
  | rdLedger9
  /-- RD_LEDGER10: BUS descriptor 0x288 (R101), rule R242. -/
  | rdLedger10
  /-- RD_LEDGER11: BUS descriptor 0x28C (R101), rule R242. -/
  | rdLedger11
  /-- RD_LEDGER12: BUS descriptor 0x290 (R101), rule R242. -/
  | rdLedger12
  /-- RD_LEDGER13: BUS descriptor 0x294 (R101), rule R242. -/
  | rdLedger13
  /-- RD_LEDGER14: BUS descriptor 0x298 (R101), rule R242. -/
  | rdLedger14
  /-- WR_CTRL: BUS descriptor 0x604 (R101), rule R243. -/
  | wrCtrl (wdata : Word)
  /-- WR_STATUS: BUS descriptor 0x608 (R101), rule R246. -/
  | wrStatus (wdata : Word)
  /-- WR_FLAGS: BUS descriptor 0x60C (R101), rule R245. -/
  | wrFlags (wdata : Word)
  /-- WR_IRQ_EN: BUS descriptor 0x610 (R101), rule R243. -/
  | wrIrqEn (wdata : Word)
  /-- WR_CMD: BUS descriptor 0x614 (R101), rule R248. -/
  | wrCmd (wdata : Word)
  /-- WR_DB_PERIOD: BUS descriptor 0x620 (R101), rule R244. -/
  | wrDbPeriod (wdata : Word)
  /-- WR_POLL_PERIOD: BUS descriptor 0x624 (R101), rule R244. -/
  | wrPollPeriod (wdata : Word)
  /-- WR_XCV_TIMEOUT: BUS descriptor 0x628 (R101), rule R244. -/
  | wrXcvTimeout (wdata : Word)
  /-- WR_DISP_PERIOD: BUS descriptor 0x62C (R101), rule R244. -/
  | wrDispPeriod (wdata : Word)
  /-- WR_LEDGER0: BUS descriptor 0x660 (R101), rule R247. -/
  | wrLedger0 (wdata : Word)
  /-- WR_LEDGER1: BUS descriptor 0x664 (R101), rule R247. -/
  | wrLedger1 (wdata : Word)
  /-- WR_LEDGER2: BUS descriptor 0x668 (R101), rule R247. -/
  | wrLedger2 (wdata : Word)
  /-- WR_LEDGER3: BUS descriptor 0x66C (R101), rule R247. -/
  | wrLedger3 (wdata : Word)
  /-- WR_LEDGER4: BUS descriptor 0x670 (R101), rule R247. -/
  | wrLedger4 (wdata : Word)
  /-- WR_LEDGER5: BUS descriptor 0x674 (R101), rule R247. -/
  | wrLedger5 (wdata : Word)
  /-- WR_LEDGER6: BUS descriptor 0x678 (R101), rule R247. -/
  | wrLedger6 (wdata : Word)
  /-- WR_LEDGER7: BUS descriptor 0x67C (R101), rule R247. -/
  | wrLedger7 (wdata : Word)
  /-- WR_LEDGER8: BUS descriptor 0x680 (R101), rule R247. -/
  | wrLedger8 (wdata : Word)
  /-- WR_LEDGER9: BUS descriptor 0x684 (R101), rule R247. -/
  | wrLedger9 (wdata : Word)
  /-- WR_LEDGER10: BUS descriptor 0x688 (R101), rule R247. -/
  | wrLedger10 (wdata : Word)
  /-- WR_LEDGER11: BUS descriptor 0x68C (R101), rule R247. -/
  | wrLedger11 (wdata : Word)
  /-- WR_LEDGER12: BUS descriptor 0x690 (R101), rule R247. -/
  | wrLedger12 (wdata : Word)
  /-- WR_LEDGER13: BUS descriptor 0x694 (R101), rule R247. -/
  | wrLedger13 (wdata : Word)
  /-- WR_LEDGER14: BUS descriptor 0x698 (R101), rule R247. -/
  | wrLedger14 (wdata : Word)
  /-- R_POLL: reader request, `rd_req_op` = 0 (R106), rule R175. -/
  | rPoll
  /-- R_AUTH: reader request, `rd_req_op` = 1 (R106), rule R176. -/
  | rAuth
  /-- R_READ: reader request, `rd_req_op` = 2 (R106), rule R178. -/
  | rRead
  /-- FL_ERASE: flash request, `fl_req_op` = 0 (R108), rule R211. -/
  | flErase
  /-- FL_PROGRAM: flash request, `fl_req_op` = 1 (R108), rule R212. -/
  | flProgram
  /-- FL_READ: flash request, `fl_req_op` = 2 (R108), rule R214. -/
  | flRead
  deriving DecidableEq, Repr

/-- The five commands a CMD write can carry (R103). -/
inductive Command where
  | nop
  | sessionClose
  | commit
  | load
  | setSwctx
  deriving DecidableEq, Repr

/-- The causes of a refused bus access, in the order they are checked (R74, R282). -/
inductive BusCause where
  | size
  | misaligned
  | unmapped
  | writeRo
  | fccBusyWrite
  deriving DecidableEq, Repr

/-- The causes of a refused command (R283). -/
inductive CmdCause where
  | reservedOp
  | fccBusy
  | reservedBits
  deriving DecidableEq, Repr

/-- The causes of a tag protocol error (R281). -/
inductive TagCause where
  | authReject
  | authTimeout
  | readReject
  | readTimeout
  deriving DecidableEq, Repr

/-- An instruction's words in the four formats of 30_encoding.md: a bus descriptor with its write data (R100), a
command word (R102), a reader op (R106), a flash op (R108). -/
inductive Encoding where
  | bus (descriptor : BitVec 11) (wdata : Word)
  | cmd (word : Word)
  | rdr (op : BitVec 2)
  | flp (op : BitVec 2)
  deriving DecidableEq, Repr

/-- Why the decoder gives no instruction (R105). -/
inductive Reject where
  /-- a bus descriptor outside R101, with the first cause of R74 that applies -/
  | bus (cause : BusCause)
  /-- a malformed command word (R249) -/
  | cmd (cause : CmdCause)
  /-- reader op 3, which the block never issues (R106) -/
  | readerOp3
  /-- flash op 3, which the block never issues (R108) -/
  | flashOp3
  deriving DecidableEq, Repr

end Sys2Proof
end

