-- ==== Sys2Proof/WellFormed.lean ====
section
/-! DEFINITION. Which instructions the spec calls well formed. Every value of a register write is legal (R25,
R30 to R33, R38) and reserved bits are ignored (R23), so the two checks there are concern the command word of a CMD
write: its bits [31:8] are zero (R102) and its OP is one of 0x00 to 0x04 (R103). An ill-formed CMD write still has a
meaning: it is refused and recorded (R249). -/

namespace Sys2Proof

/-- R102: the reserved bits [31:8] of a command word are 0. -/
def reservedBitsClear (w : Word) : Bool := w.extractLsb' 8 24 == 0

/-- R103: the OP field of a command word is a defined opcode. -/
def opDefined (w : Word) : Bool := (w.extractLsb' 0 8).toNat ≤ 4

/-- The instruction is one the spec calls legal (R102, R103, R105). -/
def Instr.wellFormed : Instr → Bool
  | .nop => true
  | .sessionClose => true
  | .commit => true
  | .load => true
  | .setSwctx => true
  | .rdId => true
  | .rdCtrl => true
  | .rdStatus => true
  | .rdFlags => true
  | .rdIrqEn => true
  | .rdCmd => true
  | .rdKey => true
  | .rdErr => true
  | .rdDbPeriod => true
  | .rdPollPeriod => true
  | .rdXcvTimeout => true
  | .rdDispPeriod => true
  | .rdDbCount => true
  | .rdPollCount => true
  | .rdXcvCount => true
  | .rdDispCount => true
  | .rdTagUidlen => true
  | .rdTagUid0 => true
  | .rdTagUid1 => true
  | .rdTagUid2 => true
  | .rdTagData0 => true
  | .rdTagData1 => true
  | .rdTagData2 => true
  | .rdTagData3 => true
  | .rdLedger0 => true
  | .rdLedger1 => true
  | .rdLedger2 => true
  | .rdLedger3 => true
  | .rdLedger4 => true
  | .rdLedger5 => true
  | .rdLedger6 => true
  | .rdLedger7 => true
  | .rdLedger8 => true
  | .rdLedger9 => true
  | .rdLedger10 => true
  | .rdLedger11 => true
  | .rdLedger12 => true
  | .rdLedger13 => true
  | .rdLedger14 => true
  | .wrCtrl _ => true
  | .wrStatus _ => true
  | .wrFlags _ => true
  | .wrIrqEn _ => true
  | .wrCmd w => reservedBitsClear w && opDefined w
  | .wrDbPeriod _ => true
  | .wrPollPeriod _ => true
  | .wrXcvTimeout _ => true
  | .wrDispPeriod _ => true
  | .wrLedger0 _ => true
  | .wrLedger1 _ => true
  | .wrLedger2 _ => true
  | .wrLedger3 _ => true
  | .wrLedger4 _ => true
  | .wrLedger5 _ => true
  | .wrLedger6 _ => true
  | .wrLedger7 _ => true
  | .wrLedger8 _ => true
  | .wrLedger9 _ => true
  | .wrLedger10 _ => true
  | .wrLedger11 _ => true
  | .wrLedger12 _ => true
  | .wrLedger13 _ => true
  | .wrLedger14 _ => true
  | .rPoll => true
  | .rAuth => true
  | .rRead => true
  | .flErase => true
  | .flProgram => true
  | .flRead => true

end Sys2Proof
end

