-- ==== Sys2Proof/Decode.lean ====
section
/-! DEFINITION. The decoder of the four formats, total and rejecting by name, and after it the encoder, both
written from 30_encoding.md and the opcode table; then the reading of one opcode-table word. -/

namespace Sys2Proof

/-- R100: descriptor bit [10], 1 for a write. -/
def descWe (d : BitVec 11) : Bool := d.getLsbD 10

/-- R100: descriptor bits [9:8], the access size. -/
def descSize (d : BitVec 11) : BitVec 2 := d.extractLsb' 8 2

/-- R100: descriptor bits [7:0], the byte offset. -/
def descAddr (d : BitVec 11) : BitVec 8 := d.extractLsb' 0 8

/-- R100: the descriptor `we, size, addr` as one 11-bit number. -/
def busDescriptor (we : Bool) (size : BitVec 2) (addr : BitVec 8) : BitVec 11 := BitVec.ofBool we ++ size ++ addr

/-- The register a word read of an offset reads (R22, R101); any other offset is unmapped. -/
def decodeRead (a : BitVec 8) : Except BusCause Instr :=
  match a with
  | 0x00#8 => .ok .rdId
  | 0x04#8 => .ok .rdCtrl
  | 0x08#8 => .ok .rdStatus
  | 0x0C#8 => .ok .rdFlags
  | 0x10#8 => .ok .rdIrqEn
  | 0x14#8 => .ok .rdCmd
  | 0x18#8 => .ok .rdKey
  | 0x1C#8 => .ok .rdErr
  | 0x20#8 => .ok .rdDbPeriod
  | 0x24#8 => .ok .rdPollPeriod
  | 0x28#8 => .ok .rdXcvTimeout
  | 0x2C#8 => .ok .rdDispPeriod
  | 0x30#8 => .ok .rdDbCount
  | 0x34#8 => .ok .rdPollCount
  | 0x38#8 => .ok .rdXcvCount
  | 0x3C#8 => .ok .rdDispCount
  | 0x40#8 => .ok .rdTagUidlen
  | 0x44#8 => .ok .rdTagUid0
  | 0x48#8 => .ok .rdTagUid1
  | 0x4C#8 => .ok .rdTagUid2
  | 0x50#8 => .ok .rdTagData0
  | 0x54#8 => .ok .rdTagData1
  | 0x58#8 => .ok .rdTagData2
  | 0x5C#8 => .ok .rdTagData3
  | 0x60#8 => .ok .rdLedger0
  | 0x64#8 => .ok .rdLedger1
  | 0x68#8 => .ok .rdLedger2
  | 0x6C#8 => .ok .rdLedger3
  | 0x70#8 => .ok .rdLedger4
  | 0x74#8 => .ok .rdLedger5
  | 0x78#8 => .ok .rdLedger6
  | 0x7C#8 => .ok .rdLedger7
  | 0x80#8 => .ok .rdLedger8
  | 0x84#8 => .ok .rdLedger9
  | 0x88#8 => .ok .rdLedger10
  | 0x8C#8 => .ok .rdLedger11
  | 0x90#8 => .ok .rdLedger12
  | 0x94#8 => .ok .rdLedger13
  | 0x98#8 => .ok .rdLedger14
  | _ => .error .unmapped

/-- The register a word write of a mapped offset writes (R101); a write of any other mapped offset is refused with
WRITE_RO, those offsets being exactly the read-only ones of R240. -/
def decodeWrite (a : BitVec 8) (v : Word) : Except BusCause Instr :=
  match a with
  | 0x04#8 => .ok (.wrCtrl v)
  | 0x08#8 => .ok (.wrStatus v)
  | 0x0C#8 => .ok (.wrFlags v)
  | 0x10#8 => .ok (.wrIrqEn v)
  | 0x14#8 => .ok (.wrCmd v)
  | 0x20#8 => .ok (.wrDbPeriod v)
  | 0x24#8 => .ok (.wrPollPeriod v)
  | 0x28#8 => .ok (.wrXcvTimeout v)
  | 0x2C#8 => .ok (.wrDispPeriod v)
  | 0x60#8 => .ok (.wrLedger0 v)
  | 0x64#8 => .ok (.wrLedger1 v)
  | 0x68#8 => .ok (.wrLedger2 v)
  | 0x6C#8 => .ok (.wrLedger3 v)
  | 0x70#8 => .ok (.wrLedger4 v)
  | 0x74#8 => .ok (.wrLedger5 v)
  | 0x78#8 => .ok (.wrLedger6 v)
  | 0x7C#8 => .ok (.wrLedger7 v)
  | 0x80#8 => .ok (.wrLedger8 v)
  | 0x84#8 => .ok (.wrLedger9 v)
  | 0x88#8 => .ok (.wrLedger10 v)
  | 0x8C#8 => .ok (.wrLedger11 v)
  | 0x90#8 => .ok (.wrLedger12 v)
  | 0x94#8 => .ok (.wrLedger13 v)
  | 0x98#8 => .ok (.wrLedger14 v)
  | _ => .error .writeRo

/-- Decode a host access (R100, R101), with the state-independent checks of R74 in their order. The fifth cause,
FCC_BUSY_WRITE, depends on the state and is part of the meaning of a LEDGER write. -/
def decodeBus (d : BitVec 11) (v : Word) : Except BusCause Instr :=
  if descSize d != 2 then .error .size
  else if (descAddr d).extractLsb' 0 2 != 0 then .error .misaligned
  else if 0x9C ≤ (descAddr d).toNat then .error .unmapped
  else if descWe d then decodeWrite (descAddr d) v
  else decodeRead (descAddr d)

/-- `DecodeCmd` of R240, R249: RESERVED_BITS is checked before RESERVED_OP. -/
def decodeCmd (w : Word) : Except CmdCause Command :=
  if !reservedBitsClear w then .error .reservedBits
  else match (w.extractLsb' 0 8).toNat with
    | 0 => .ok .nop
    | 1 => .ok .sessionClose
    | 2 => .ok .commit
    | 3 => .ok .load
    | 4 => .ok .setSwctx
    | _ => .error .reservedOp

/-- The instruction of the table's CMD row that a command is. -/
def Command.instr : Command → Instr
  | .nop => .nop
  | .sessionClose => .sessionClose
  | .commit => .commit
  | .load => .load
  | .setSwctx => .setSwctx

/-- Decode any words of the four formats (R100 to R108). -/
def decode : Encoding → Except Reject Instr
  | .bus d v => match decodeBus d v with
    | .ok i => .ok i
    | .error c => .error (.bus c)
  | .cmd w => match decodeCmd w with
    | .ok c => .ok c.instr
    | .error c => .error (.cmd c)
  | .rdr op => match op with
    | 0#2 => .ok .rPoll
    | 1#2 => .ok .rAuth
    | 2#2 => .ok .rRead
    | _ => .error .readerOp3
  | .flp op => match op with
    | 0#2 => .ok .flErase
    | 1#2 => .ok .flProgram
    | 2#2 => .ok .flRead
    | _ => .error .flashOp3

/-- The words of an instruction (R101, R103, R106, R108). A read's `wdata` is not part of it (R100) and is given as 0. -/
def encode : Instr → Encoding
  | .nop => .cmd 0x00000000
  | .sessionClose => .cmd 0x00000001
  | .commit => .cmd 0x00000002
  | .load => .cmd 0x00000003
  | .setSwctx => .cmd 0x00000004
  | .rdId => .bus 0x200 0
  | .rdCtrl => .bus 0x204 0
  | .rdStatus => .bus 0x208 0
  | .rdFlags => .bus 0x20C 0
  | .rdIrqEn => .bus 0x210 0
  | .rdCmd => .bus 0x214 0
  | .rdKey => .bus 0x218 0
  | .rdErr => .bus 0x21C 0
  | .rdDbPeriod => .bus 0x220 0
  | .rdPollPeriod => .bus 0x224 0
  | .rdXcvTimeout => .bus 0x228 0
  | .rdDispPeriod => .bus 0x22C 0
  | .rdDbCount => .bus 0x230 0
  | .rdPollCount => .bus 0x234 0
  | .rdXcvCount => .bus 0x238 0
  | .rdDispCount => .bus 0x23C 0
  | .rdTagUidlen => .bus 0x240 0
  | .rdTagUid0 => .bus 0x244 0
  | .rdTagUid1 => .bus 0x248 0
  | .rdTagUid2 => .bus 0x24C 0
  | .rdTagData0 => .bus 0x250 0
  | .rdTagData1 => .bus 0x254 0
  | .rdTagData2 => .bus 0x258 0
  | .rdTagData3 => .bus 0x25C 0
  | .rdLedger0 => .bus 0x260 0
  | .rdLedger1 => .bus 0x264 0
  | .rdLedger2 => .bus 0x268 0
  | .rdLedger3 => .bus 0x26C 0
  | .rdLedger4 => .bus 0x270 0
  | .rdLedger5 => .bus 0x274 0
  | .rdLedger6 => .bus 0x278 0
  | .rdLedger7 => .bus 0x27C 0
  | .rdLedger8 => .bus 0x280 0
  | .rdLedger9 => .bus 0x284 0
  | .rdLedger10 => .bus 0x288 0
  | .rdLedger11 => .bus 0x28C 0
  | .rdLedger12 => .bus 0x290 0
  | .rdLedger13 => .bus 0x294 0
  | .rdLedger14 => .bus 0x298 0
  | .wrCtrl v => .bus 0x604 v
  | .wrStatus v => .bus 0x608 v
  | .wrFlags v => .bus 0x60C v
  | .wrIrqEn v => .bus 0x610 v
  | .wrCmd v => .bus 0x614 v
  | .wrDbPeriod v => .bus 0x620 v
  | .wrPollPeriod v => .bus 0x624 v
  | .wrXcvTimeout v => .bus 0x628 v
  | .wrDispPeriod v => .bus 0x62C v
  | .wrLedger0 v => .bus 0x660 v
  | .wrLedger1 v => .bus 0x664 v
  | .wrLedger2 v => .bus 0x668 v
  | .wrLedger3 v => .bus 0x66C v
  | .wrLedger4 v => .bus 0x670 v
  | .wrLedger5 v => .bus 0x674 v
  | .wrLedger6 v => .bus 0x678 v
  | .wrLedger7 v => .bus 0x67C v
  | .wrLedger8 v => .bus 0x680 v
  | .wrLedger9 v => .bus 0x684 v
  | .wrLedger10 v => .bus 0x688 v
  | .wrLedger11 v => .bus 0x68C v
  | .wrLedger12 v => .bus 0x690 v
  | .wrLedger13 v => .bus 0x694 v
  | .wrLedger14 v => .bus 0x698 v
  | .rPoll => .rdr 0
  | .rAuth => .rdr 1
  | .rRead => .rdr 2
  | .flErase => .flp 0
  | .flProgram => .flp 1
  | .flRead => .flp 2

/-- The words of an access without the write data that a read does not use (R100). -/
def Encoding.withoutReadData : Encoding → Encoding
  | .bus d v => .bus d (if descWe d then v else 0)
  | e => e

/-- The words that the bits of one opcode-table row stand for, by how many bits the row has, in whole bytes: up to 8, a
port request; up to 16, an 11-bit bus descriptor, with `wdata` 0; more, a 32-bit command word. The table gives the
reader ops and the flash ops the same bits (0, 1, 2 of two bits), told apart only by the port they appear on, which a
number cannot say: such a word is read as the reader's (log entry 7). -/
def tableEncoding (nbits w : Nat) : Option Encoding :=
  if nbits ≤ 8 then (if w < 4 then some (.rdr (BitVec.ofNat 2 w)) else none)
  else if nbits ≤ 16 then (if w < 2048 then some (.bus (BitVec.ofNat 11 w) 0) else none)
  else if w < 4294967296 then some (.cmd (BitVec.ofNat 32 w))
  else none

/-- The instruction this decoder reads from an opcode-table word. -/
def decodeTableWord (nbits w : Nat) : Option Instr :=
  match tableEncoding nbits w with
  | none => none
  | some e => match decode e with
    | .ok i => some i
    | .error _ => none

end Sys2Proof
end

