-- ==== Sys2Proof/Config.lean ====
section
/-! DEFINITION. What an implementation of the block fixes (R8). The three parameters the spec leaves OPEN, and the free
flash bytes of R219, are constants without a body: no proof can see their value. `Params` gathers the parameters as
plain data, so that a state can carry any value of them, as R8 says ("a named parameter the model takes as an
argument"). -/

namespace Sys2Proof

/-- TICK_CYCLES - 1, where TICK_CYCLES is an integer of at least 1 (R8, D2): OPEN. -/
opaque Config.tickPred : Nat

/-- The number of 4096-byte sectors below the top one: FLASH_SIZE is a multiple of 4096, at least 4096 (R8, D26), and
its bytes have 32-bit addresses (R71): OPEN. -/
opaque Config.topSector : Fin 1048576

/-- TAG_BLOCK, the number of the designated data block (R8, D24): OPEN. -/
opaque Config.tagBlock : BitVec 8

/-- The bytes a ledger sector may hold after a reset during a commit: any value (R219, R324). The n-th free byte the
run has used; log entry 5. -/
opaque Config.freeFlashByte : Nat → Byte

/-- The block's parameters (R8). No step changes them. -/
structure Params where
  /-- TICK_CYCLES - 1 -/
  tickPred : Nat
  /-- the index of the top sector of flash, which is the ledger sector (R79) -/
  topSector : Fin 1048576
  /-- TAG_BLOCK -/
  tagBlock : BitVec 8
  /-- AUTH_KEY -/
  authKey : BitVec 48
  /-- KEYMAP, the code of (row r, column c) at index 4 r + c (R110) -/
  keymap : Vector (BitVec 4) 16
  deriving DecidableEq, Repr

/-- TICK_CYCLES, clock cycles per tick (R8). -/
def Params.tickCycles (p : Params) : Nat := p.tickPred + 1

/-- FLASH_SIZE, bytes of flash behind the flash port (R8). -/
def Params.flashSize (p : Params) : Nat := 4096 * (p.topSector.val + 1)

end Sys2Proof
end

