-- ==== Sys2Proof/Machine/Defaults.lean ====
section
/-! DEFINITION. The constants and the default parameter values the spec gives (R8, R24, R110, R321). -/

namespace Sys2Proof.Machine

/-- The ID register's constant (R24). -/
def idValue : Word := 0x494D5207

/-- The default KEYMAP, row by row (R110). -/
def defaultKeymap : Vector (BitVec 4) 16 :=
  #v[0x1, 0x2, 0x3, 0xA,
     0x4, 0x5, 0x6, 0xB,
     0x7, 0x8, 0x9, 0xC,
     0xE, 0x0, 0xF, 0xD]

/-- The default AUTH_KEY (R8). -/
def defaultAuthKey : BitVec 48 := 0xFFFFFFFFFFFF

/-- The parameters a block starts with: the OPEN ones unknown, the others at the spec's default (R8, log entry 3). -/
def defaultParams : Params where
  tickPred := Config.tickPred
  topSector := Config.topSector
  tagBlock := Config.tagBlock
  authKey := defaultAuthKey
  keymap := defaultKeymap

/-- DB_PERIOD at reset (R30). -/
def resetDbPeriod : Word := 100

/-- POLL_PERIOD at reset (R31). -/
def resetPollPeriod : Word := 1000

/-- XCV_TIMEOUT at reset (R32). -/
def resetXcvTimeout : Word := 36

/-- DISP_PERIOD at reset (R33). -/
def resetDispPeriod : Word := 0

end Sys2Proof.Machine
end

