-- ==== Sys2Proof/Machine/State.lean ====
section
/-! DEFINITION. The state of IMR-CTL as plain data (10_state.md), the input pins of a cycle (R44), the reasons a step
can stop, and the state after reset (R321). -/

namespace Sys2Proof.Machine

/-- `kp_state` (R40). Code 3 of STATUS.KP_STATE is never held (R26), so it has no name. -/
inductive KpState where
  | disabled
  | colsArmed
  | rowsArmed
  deriving DecidableEq, Repr

/-- `tag_state` (R41). Codes 5 to 7 are never held (R26). -/
inductive TagState where
  | idle
  | polling
  | authenticating
  | reading
  | present
  deriving DecidableEq, Repr

/-- `fcc_state` (R42). -/
inductive FccState where
  | idle
  | erasing
  | programming
  | loading
  deriving DecidableEq, Repr

/-- `rd_op` (R41, R106). Op 3 is never issued. -/
inductive RdOp where
  | poll
  | auth
  | read
  deriving DecidableEq, Repr

/-- `fl_op` (R42, R108). Op 3 is never issued. -/
inductive FlOp where
  | erase
  | program
  | read
  deriving DecidableEq, Repr

/-- The input pins of one cycle (R44, R100, R107, R109). Any value of any pin is legal: the block has a rule for it. -/
structure Inputs where
  rst : Bool
  busValid : Bool
  busWe : Bool
  busSize : BitVec 2
  busAddr : BitVec 8
  busWdata : Word
  kpRow : BitVec 4
  kpCol : BitVec 4
  tagPin : Bool
  rspValid : Bool
  rspStatus : BitVec 2
  rspUidlen : BitVec 4
  rspUid : BitVec 80
  rspData : BitVec 128
  flAck : Bool
  flRdata : BitVec 480
  deriving DecidableEq, Repr

/-- A cycle with no host access, no event and every level 0 (R116: unset inputs are 0). -/
def Inputs.quiet : Inputs where
  rst := false
  busValid := false
  busWe := false
  busSize := 0
  busAddr := 0
  busWdata := 0
  kpRow := 0
  kpCol := 0
  tagPin := false
  rspValid := false
  rspStatus := 0
  rspUidlen := 0
  rspUid := 0
  rspData := 0
  flAck := false
  flRdata := 0

/-- The block's state (10_state.md), and after it the model's own fields (INVENTORY.md, '## State'). -/
@[ext]
structure State where
  /-- CTRL[3:0] (R25) -/
  ctrl : BitVec 4
  /-- STATUS[19:16]: BUS_ERR, CMD_ERR, TAG_ERR, KEY_OVR from the high bit down (R26) -/
  sticky : BitVec 4
  /-- FLAGS[4:0] (R27) -/
  flags : BitVec 5
  /-- IRQ_EN[4:0] (R28) -/
  irqEn : BitVec 5
  /-- KEY.CODE (R34) -/
  keyCode : BitVec 4
  /-- KEY.ROW (R34) -/
  keyRow : BitVec 4
  /-- KEY.COL (R34) -/
  keyCol : BitVec 4
  /-- ERR.TAG_CAUSE (R35) -/
  tagCause : BitVec 3
  /-- ERR.CMD_CAUSE (R35) -/
  cmdCause : BitVec 3
  /-- ERR.BUS_CAUSE (R35) -/
  busCause : BitVec 3
  /-- DB_PERIOD (R30) -/
  dbPeriod : Word
  /-- POLL_PERIOD (R31) -/
  pollPeriod : Word
  /-- XCV_TIMEOUT (R32) -/
  xcvTimeout : Word
  /-- DISP_PERIOD (R33) -/
  dispPeriod : Word
  /-- DB_COUNT (R39) -/
  dbCount : Word
  /-- POLL_COUNT (R39) -/
  pollCount : Word
  /-- XCV_COUNT (R39) -/
  xcvCount : Word
  /-- DISP_COUNT (R39) -/
  dispCount : Word
  /-- TAG_UIDLEN[3:0] (R36) -/
  tagUidlen : BitVec 4
  /-- TAG_UID0 (R36) -/
  tagUid0 : Word
  /-- TAG_UID1 (R36) -/
  tagUid1 : Word
  /-- TAG_UID2[15:0] (R36) -/
  tagUid2 : BitVec 16
  /-- TAG_DATA0 (R37) -/
  tagData0 : Word
  /-- TAG_DATA1 (R37) -/
  tagData1 : Word
  /-- TAG_DATA2 (R37) -/
  tagData2 : Word
  /-- TAG_DATA3 (R37) -/
  tagData3 : Word
  /-- LEDGER0..14 (R38) -/
  ledger : Vector Word 15
  /-- `kp_state` (R40) -/
  kpState : KpState
  /-- `col_prev` (R40) -/
  colPrev : BitVec 4
  /-- `row_prev` (R40) -/
  rowPrev : BitVec 4
  /-- `tag_state` (R41) -/
  tagState : TagState
  /-- `rd_pend`: a reader request is outstanding (R41) -/
  rdPend : Bool
  /-- `rd_issue`: the reader request is on the port this cycle (R41) -/
  rdIssue : Bool
  /-- `rd_op` (R41) -/
  rdOp : RdOp
  /-- `rd_abort_q` (R41) -/
  rdAbortQ : Bool
  /-- `uid_sh` (R41) -/
  uidSh : BitVec 80
  /-- `uidlen_sh` (R41) -/
  uidlenSh : BitVec 4
  /-- `pin_prev` (R41) -/
  pinPrev : Bool
  /-- `fcc_state` (R42) -/
  fccState : FccState
  /-- `fl_issue`: the flash request is on the port this cycle (R42) -/
  flIssue : Bool
  /-- `fl_op` (R42) -/
  flOp : FlOp
  /-- `fl_pend`: a flash request is outstanding (R42) -/
  flPend : Bool
  /-- `presc`, clock cycles within the current tick (R43) -/
  presc : Nat
  /-- the model's: `bus_rdata` as given in the last cycle (R45, log entry 2) -/
  busRdata : Word
  /-- the model's: `bus_err` as given in the last cycle (R45, log entry 2) -/
  busErr : Bool
  /-- the flash array behind the flash port (R71, R81): the bytes that differ from 0xFF (log entry 4) -/
  flash : List Host.Cell
  /-- the model's: how many free flash bytes the run has used (log entry 5) -/
  freeIdx : Nat
  /-- the model's: the input pins of this cycle and of the cycles after it (R44, log entry 1) -/
  inputs : List Inputs
  /-- the model's: the block's parameters (R8, log entry 3) -/
  params : Params
  deriving DecidableEq, Repr

/-- Why a step could fault: nothing. The block has no trap and never stops (R13, R52, R280): an error is recorded in
STATUS and ERR and the block keeps running, so no rule of the spec raises a fault of the machine. -/
inductive Fault where
  deriving DecidableEq, Repr

/-- Why a step could be refused. -/
inductive Refusal where
  /-- An instruction of the opcode table without a meaning. Raised by an arm of `exec` only; no arm does, every
  instruction having its meaning. Safe: the model stops where the hardware goes on. -/
  | notModelled (mnemonic : String)
  deriving DecidableEq, Repr

/-- ResetState (R321), with no coming input given (log entry 1) and the flash array with no listed byte (log entry 4).
It is also the state a model starts in (R325). -/
def State.reset : State where
  ctrl := 0
  sticky := 0
  flags := 0
  irqEn := 0
  keyCode := 0
  keyRow := 0
  keyCol := 0
  tagCause := 0
  cmdCause := 0
  busCause := 0
  dbPeriod := resetDbPeriod
  pollPeriod := resetPollPeriod
  xcvTimeout := resetXcvTimeout
  dispPeriod := resetDispPeriod
  dbCount := 0
  pollCount := 0
  xcvCount := 0
  dispCount := 0
  tagUidlen := 0
  tagUid0 := 0
  tagUid1 := 0
  tagUid2 := 0
  tagData0 := 0
  tagData1 := 0
  tagData2 := 0
  tagData3 := 0
  ledger := Vector.replicate 15 0
  kpState := .disabled
  colPrev := 0
  rowPrev := 0
  tagState := .idle
  rdPend := false
  rdIssue := false
  rdOp := .poll
  rdAbortQ := false
  uidSh := 0
  uidlenSh := 0
  pinPrev := false
  fccState := .idle
  flIssue := false
  flOp := .erase
  flPend := false
  presc := 0
  busRdata := 0
  busErr := false
  flash := []
  freeIdx := 0
  inputs := []
  params := defaultParams

end Sys2Proof.Machine
end

