-- ==== Sys2Proof/Machine/Flags.lean ====
section
/-! DEFINITION. The pending flags (R27), the sticky error bits of STATUS (R26), the control bits of CTRL (R25), and the
interrupt output computed from them (R288). -/

namespace Sys2Proof.Machine

/-- The bits of FLAGS and IRQ_EN, one interrupt source each (R27, R289). -/
inductive Flag where
  | keyReady
  | tagReady
  | swctx
  | invTick
  | fccDone
  deriving DecidableEq, Repr

/-- A flag's bit number in FLAGS and IRQ_EN (R27). -/
def flagIndex : Flag → Nat
  | .keyReady => 0
  | .tagReady => 1
  | .swctx => 2
  | .invTick => 3
  | .fccDone => 4

/-- The one-bit mask of a flag. -/
def flagMask (f : Flag) : BitVec 5 := 1#5 <<< flagIndex f

/-- The flag is pending. -/
def flagSet (s : State) (f : Flag) : Bool := s.flags.getLsbD (flagIndex f)

/-- `set FLAG` (R14): write 1 to the flag's bit. -/
def setFlag (f : Flag) (s : State) : State := { s with flags := s.flags ||| flagMask f }

/-- The W1C clear of FLAGS (R23, R245): each bit of the mask that is 1 is cleared. -/
def clearFlags (mask : BitVec 5) (s : State) : State := { s with flags := s.flags &&& ~~~mask }

/-- The W1C clear of STATUS[19:16] (R23, R246). -/
def clearSticky (mask : BitVec 4) (s : State) : State := { s with sticky := s.sticky &&& ~~~mask }

/-- CTRL.KP_EN (R25). -/
def kpEn (s : State) : Bool := s.ctrl.getLsbD 0

/-- CTRL.TAG_EN (R25). -/
def tagEn (s : State) : Bool := s.ctrl.getLsbD 1

/-- CTRL.TAG_MODE: false periodic, true edge of the tag-presence pin (R25). -/
def tagMode (s : State) : Bool := s.ctrl.getLsbD 2

/-- CTRL.DISP_EN (R25). -/
def dispEn (s : State) : Bool := s.ctrl.getLsbD 3

/-- STATUS.FCC_BUSY (R26). -/
def fccBusy (s : State) : Bool := s.fccState != .idle

/-- STATUS.IRQ_HOLD, the commit hold (R26, R216). -/
def irqHold (s : State) : Bool := s.fccState == .erasing || s.fccState == .programming

/-- The interrupt output `irq` (R288). -/
def irq (s : State) : Bool := (s.flags &&& s.irqEn) != 0 && !irqHold s

end Sys2Proof.Machine
end

