-- ==== Sys2Proof/Machine/Operands.lean ====
section
/-! DEFINITION. What the instructions and sub-units read: the codes of the state fields and error causes, the words of
the registers as `readval` assembles them (R242), the input pins, the key decode (R111), the UID bytes (R180) and the
flash page image with its inverse (R112, R113). -/

namespace Sys2Proof.Machine

/-- STATUS.KP_STATE (R26). -/
def kpStateCode : KpState → BitVec 2
  | .disabled => 0
  | .colsArmed => 1
  | .rowsArmed => 2

/-- STATUS.TAG_STATE (R26). -/
def tagStateCode : TagState → BitVec 3
  | .idle => 0
  | .polling => 1
  | .authenticating => 2
  | .reading => 3
  | .present => 4

/-- STATUS.FCC_STATE (R26). -/
def fccStateCode : FccState → BitVec 2
  | .idle => 0
  | .erasing => 1
  | .programming => 2
  | .loading => 3

/-- `rd_req_op` (R106). -/
def rdOpCode : RdOp → BitVec 2
  | .poll => 0
  | .auth => 1
  | .read => 2

/-- `fl_req_op` (R108). -/
def flOpCode : FlOp → BitVec 2
  | .erase => 0
  | .program => 1
  | .read => 2

/-- ERR.BUS_CAUSE (R282). -/
def busCauseCode : BusCause → BitVec 3
  | .size => 1
  | .misaligned => 2
  | .unmapped => 3
  | .writeRo => 4
  | .fccBusyWrite => 5

/-- ERR.CMD_CAUSE (R283). -/
def cmdCauseCode : CmdCause → BitVec 3
  | .reservedOp => 1
  | .fccBusy => 2
  | .reservedBits => 3

/-- ERR.TAG_CAUSE (R281). -/
def tagCauseCode : TagCause → BitVec 3
  | .authReject => 1
  | .authTimeout => 2
  | .readReject => 3
  | .readTimeout => 4

/-! Register reads (R242): reserved bits read 0. -/

/-- The word a read of CTRL answers. -/
def ctrlWord (s : State) : Word := 0#28 ++ s.ctrl

/-- The word a read of STATUS answers. -/
def statusWord (s : State) : Word :=
  0#12 ++ s.sticky ++ 0#4 ++ BitVec.ofBool (irqHold s) ++ BitVec.ofBool (fccBusy s) ++ fccStateCode s.fccState
    ++ BitVec.ofBool s.rdPend ++ tagStateCode s.tagState ++ 0#2 ++ kpStateCode s.kpState

/-- The word a read of FLAGS answers. -/
def flagsWord (s : State) : Word := 0#27 ++ s.flags

/-- The word a read of IRQ_EN answers. -/
def irqEnWord (s : State) : Word := 0#27 ++ s.irqEn

/-- The word a read of KEY answers (R34). -/
def keyWord (s : State) : Word := 0#16 ++ s.keyCol ++ s.keyRow ++ 0#4 ++ s.keyCode

/-- The word a read of ERR answers (R35). -/
def errWord (s : State) : Word := 0#13 ++ s.busCause ++ 0#5 ++ s.cmdCause ++ 0#5 ++ s.tagCause

/-- The word a read of TAG_UIDLEN answers (R36). -/
def uidlenWord (s : State) : Word := 0#28 ++ s.tagUidlen

/-- The word a read of TAG_UID2 answers (R36). -/
def uid2Word (s : State) : Word := 0#16 ++ s.tagUid2

/-- The word a read of LEDGERk answers (R38). -/
def ledgerWord (k : Fin 15) (s : State) : Word := s.ledger[k]

/-! Inputs of the cycle (R44). -/

/-- The input pins of the present cycle: the first entry of the list, or every pin 0 when none is given (R116, log
entry 1). -/
def input (s : State) : Inputs := s.inputs.headD Inputs.quiet

/-- `t`: the prescaler wraps in this cycle (R295). -/
def tick (s : State) : Bool := s.presc == s.params.tickPred

/-- `load(P)` = max(P, 1) (R296). -/
def load (p : Word) : Word := if p = 0 then 1 else p

/-- The status of a reader response (R107). -/
inductive RdStatus where
  | ok
  | collision
  | timeout
  | error
  deriving DecidableEq, Repr

/-- `rd_rsp_status` (R107). -/
def rdStatus (b : BitVec 2) : RdStatus :=
  match b with
  | 0#2 => .ok
  | 1#2 => .collision
  | 2#2 => .timeout
  | _ => .error

/-! Key decode (R10, R110, R111). -/

/-- `popcount` of a 4-bit mask (R10). -/
def popcount (v : BitVec 4) : Nat :=
  (v.getLsbD 0).toNat + (v.getLsbD 1).toNat + (v.getLsbD 2).toNat + (v.getLsbD 3).toNat

/-- `onehot` (R10). -/
def oneHot (v : BitVec 4) : Bool := popcount v == 1

/-- `index` of a one-hot mask: the position of its one bit (R10). -/
def maskIndex (v : BitVec 4) : Fin 4 :=
  if v.getLsbD 0 then 0 else if v.getLsbD 1 then 1 else if v.getLsbD 2 then 2 else 3

/-- `KEYMAP(r, c)` (R110). -/
def keymapAt (p : Params) (r c : Fin 4) : BitVec 4 := p.keymap[4 * r.val + c.val]

/-- `decode(rm, cm)` of R111: no key unless exactly one row bit and one column bit are set. -/
def keyDecode (p : Params) (rm cm : BitVec 4) : Option (BitVec 4) :=
  if oneHot rm && oneHot cm then some (keymapAt p (maskIndex rm) (maskIndex cm)) else none

/-! The published UID (R36, R180). -/

/-- The UID's bytes below its length, every other byte 0 (R180). -/
def uidKept (uid : BitVec 80) (len : BitVec 4) : BitVec 80 := uid &&& BitVec.ofNat 80 (2 ^ (8 * len.toNat) - 1)

/-! The flash page (R78, R79, R112, R113). -/

/-- Bytes of the erase unit, of the program unit and of the part of the page that has a meaning (R8). -/
def sectorBytes : Nat := 4096
@[inherit_doc sectorBytes] def pageBytes : Nat := 256
@[inherit_doc sectorBytes] def imageBytes : Nat := 60

/-- PAD_BYTE, programmed into page bytes 60..255 (R8, D27). -/
def padByte : Byte := 0xFF

/-- The value every byte reads after an acknowledged erase (R81b). -/
def erasedByte : Byte := 0xFF

/-- The base of the ledger sector, FLASH_SIZE - 4096, which is also the page's (R79). -/
def sectorBase (p : Params) : Nat := p.flashSize - sectorBytes

/-- Byte `b` of a word, byte 0 the least significant (R78). -/
def wordByte (w : Word) (b : Nat) : Byte := w.extractLsb' (8 * b) 8

/-- The four bytes of a word in the order they are stored (R78). -/
def wordBytes (w : Word) : List Byte := [wordByte w 0, wordByte w 1, wordByte w 2, wordByte w 3]

/-- `image(LEDGER)`, the 256 bytes of the page (R112). -/
def pageImage (ledger : Vector Word 15) : List Byte :=
  ledger.toList.flatMap wordBytes ++ List.replicate (pageBytes - imageBytes) padByte

/-- The fifteen words of the 60 bytes of a flash read (R113, R215): word k is bits [32k+31:32k]. -/
def unpackLedger (d : BitVec 480) : Vector Word 15 := Vector.ofFn fun k : Fin 15 => d.extractLsb' (32 * k.val) 32

/-- A byte string as one number, byte i in bits [8i+7:8i] (R109). -/
def packBytes : List Byte → Nat
  | [] => 0
  | b :: bs => b.toNat + 256 * packBytes bs

end Sys2Proof.Machine
end

