-- ==== Sys2Proof/Machine/Ops.lean ====
section
/-! DEFINITION. The named operations the meanings share: the answer of a bus access, raising an error, the issue of a
port request, and the flash array with its canonical form. -/

namespace Sys2Proof.Machine

/-! The bus response of the cycle (R240). -/

/-- The access answers `bus_rdata` = d, `bus_err` = 0 and nothing else happens (R77, R242). -/
def respondRead (d : Word) (s : State) : State := { s with busRdata := d, busErr := false }

/-- An accepted write answers `bus_rdata` = 0, `bus_err` = 0 (R240). -/
def respondWrite (s : State) : State := { s with busRdata := 0, busErr := false }

/-! Errors (R13, R280): the one operation by which the block takes an error. There is no trap, no saved state and no
return; what ends the condition is the host's W1C write (`clearSticky`, R246). -/

/-- An error with its class and cause (R280). -/
inductive ErrorEvent where
  | tag (cause : TagCause)
  | bus (cause : BusCause)
  | cmd (cause : CmdCause)
  | keyOverrun
  deriving DecidableEq, Repr

/-- The sticky bit of an error's class, as a mask of STATUS[19:16] (R26, R280). -/
def stickyMask : ErrorEvent → BitVec 4
  | .keyOverrun => 1
  | .tag _ => 2
  | .cmd _ => 4
  | .bus _ => 8

/-- `raise E(cause)` (R280): set the sticky bit of the class and write its cause field; nothing else. -/
def raise (e : ErrorEvent) (s : State) : State :=
  { s with
    sticky := s.sticky ||| stickyMask e
    tagCause := match e with
      | .tag c => tagCauseCode c
      | _ => s.tagCause
    cmdCause := match e with
      | .cmd c => cmdCauseCode c
      | _ => s.cmdCause
    busCause := match e with
      | .bus c => busCauseCode c
      | _ => s.busCause }

/-- A refused bus access (R74, R254): BusError is raised and the access answers `bus_err` = 1, `bus_rdata` = 0. -/
def busError (c : BusCause) (s : State) : State := { raise (.bus c) s with busRdata := 0, busErr := true }

/-- A write of LEDGERk (R247): refused with FCC_BUSY_WRITE while FCC is busy (R76). -/
def writeLedger (k : Fin 15) (v : Word) (s : State) : State :=
  if fccBusy s then busError .fccBusyWrite s else respondWrite { s with ledger := s.ledger.set k v }

/-! Port requests (R14). In these, `S` is the state at the start of the cycle and `acc` the state under construction. -/

/-- `issue RDR_op` (R14, R170): the request is on the port for exactly the next cycle and the deadline is loaded. -/
def issueRdr (op : RdOp) (S acc : State) : State :=
  { acc with rdOp := op, rdIssue := true, rdPend := true, xcvCount := load S.xcvTimeout }

/-- `issue FL_op` (R14, R210). -/
def issueFlp (op : FlOp) (acc : State) : State := { acc with flOp := op, flIssue := true, flPend := true }

/-! The flash array (R71, R81): the listed bytes in strictly rising address order, none equal to what an unlisted
address reads as. -/

/-- What an address that is not listed reads as: the erased value (log entry 4). -/
def unlistedByte : Byte := erasedByte

/-- The byte at an address. -/
def flashRead : List Host.Cell → Nat → Byte
  | [], _ => unlistedByte
  | (k, b) :: m, a => if k = a then b else flashRead m a

/-- Store one byte, keeping the canonical form. -/
def flashWrite : List Host.Cell → Nat → Byte → List Host.Cell
  | [], a, b => if b = unlistedByte then [] else [(a, b)]
  | (k, v) :: m, a, b =>
    if a < k then (if b = unlistedByte then (k, v) :: m else (a, b) :: (k, v) :: m)
    else if a = k then (if b = unlistedByte then m else (a, b) :: m)
    else (k, v) :: flashWrite m a b

/-- Store a byte string from an address on. -/
def flashWriteBytes (m : List Host.Cell) (a : Nat) : List Byte → List Host.Cell
  | [] => m
  | b :: bs => flashWrite (flashWriteBytes m (a + 1) bs) a b

/-- Every byte of a range reads as the erased value: its entries are taken out. -/
def flashErase (m : List Host.Cell) (a len : Nat) : List Host.Cell :=
  m.filter fun c => c.1 < a || a + len ≤ c.1

/-- Addresses strictly rising from a lower bound on, no entry equal to an unlisted byte. -/
def flashWfFrom (lo : Nat) : List Host.Cell → Bool
  | [] => true
  | (k, b) :: m => lo ≤ k && b != unlistedByte && flashWfFrom (k + 1) m

/-- The canonical form of the flash array. -/
def flashWf (m : List Host.Cell) : Bool := flashWfFrom 0 m

/-- `len` bytes of the array from an address on. -/
def flashReadBytes (m : List Host.Cell) (a : Nat) : Nat → List Byte
  | 0 => []
  | n + 1 => flashRead m a :: flashReadBytes m (a + 1) n

/-- The 60 bytes an FL_READ of the page returns under the flash port contract, as `fl_rdata` carries them (R81, R109). -/
def pageRdata (s : State) : BitVec 480 :=
  BitVec.ofNat 480 (packBytes (flashReadBytes s.flash (sectorBase s.params) imageBytes))

/-- `len` free bytes, from the n-th on (R219). -/
def freeBytes (n : Nat) : Nat → List Byte
  | 0 => []
  | k + 1 => Config.freeFlashByte n :: freeBytes (n + 1) k

/-- The array after an acknowledged FL_ERASE of the ledger sector (R81b). -/
def sectorErased (acc : State) : State :=
  { acc with flash := flashErase acc.flash (sectorBase acc.params) sectorBytes }

/-- The array after an acknowledged FL_PROGRAM of the page image (R81c, R112). -/
def pageProgrammed (acc : State) : State :=
  { acc with flash := flashWriteBytes acc.flash (sectorBase acc.params) (pageImage acc.ledger) }

/-- The array after a reset during a commit: every byte of the ledger sector is any value (R219, R324). -/
def sectorFreed (acc : State) : State :=
  { acc with
    flash := flashWriteBytes acc.flash (sectorBase acc.params) (freeBytes acc.freeIdx sectorBytes)
    freeIdx := acc.freeIdx + sectorBytes }

end Sys2Proof.Machine
end

