-- ==== Sys2Proof/Machine/Fcc.lean ====
section
/-! DEFINITION. FCC, the flash commit controller (42_flash_commit.md): FccStep, and the meanings of the three flash
requests it issues. -/

namespace Sys2Proof.Machine

/-- The flash acknowledgement is accepted: strictly after the request cycle, while a request is outstanding (R109). -/
def flAcked (S : State) : Bool := S.flPend && !S.flIssue && (input S).flAck

/-- COMMIT accepted (R211): ERASING, FL_ERASE issued. -/
def startErase (acc : State) : State := issueFlp .erase { acc with fccState := .erasing }

/-- Erase acknowledged (R212): PROGRAMMING, FL_PROGRAM issued. -/
def startProgram (acc : State) : State := issueFlp .program { acc with fccState := .programming }

/-- LOAD accepted (R214): LOADING, FL_READ issued. -/
def startLoad (acc : State) : State := issueFlp .read { acc with fccState := .loading }

/-- The end of an operation (R213, R215): IDLE, no request outstanding, FCC_DONE set. -/
def fccFinish (acc : State) : State := setFlag .fccDone { acc with fccState := .idle, flPend := false }

/-- FL_ERASE (R211): the block issues the sector erase, which it does from IDLE only. -/
def execFlErase (s : State) : Host.Outcome State Fault Refusal :=
  .next (if s.fccState == .idle then startErase s else s)

/-- FL_PROGRAM (R212): the block issues the page program when the erase is acknowledged, and at no other time. -/
def execFlProgram (s : State) : Host.Outcome State Fault Refusal :=
  .next (if s.fccState == .erasing && flAcked s then startProgram s else s)

/-- FL_READ (R214): the block issues the page read, which it does from IDLE only. -/
def execFlRead (s : State) : Host.Outcome State Fault Refusal :=
  .next (if s.fccState == .idle then startLoad s else s)

/-- FccStep (R210) but for its IDLE arm and its refusals, which are the meanings of COMMIT and LOAD. With an
acknowledgement the flash array changes as the port contract says (R81). -/
def fccStep (S acc : State) : State :=
  match S.fccState with
  | .idle => acc
  | .erasing => if flAcked S then startProgram (sectorErased acc) else acc
  | .programming => if flAcked S then fccFinish (pageProgrammed acc) else acc
  | .loading => if flAcked S then fccFinish { acc with ledger := unpackLedger (input S).flRdata } else acc

end Sys2Proof.Machine
end

