-- ==== Sys2Proof/Machine/Commands.lean ====
section
/-! DEFINITION. The meanings of the five command words (R250 to R253). A command is run by a CMD write (R248), whose bus
answer belongs to that write. -/

namespace Sys2Proof.Machine

/-- NOP (R251): no effect. -/
def execNop (s : State) : Host.Outcome State Fault Refusal := .next s

/-- SESSION_CLOSE (R183, R250): PRESENT goes to POLLING when TAG is enabled; no effect in any other state. -/
def execSessionClose (s : State) : Host.Outcome State Fault Refusal :=
  .next (if tagEn s && s.tagState == .present then { s with tagState := .polling } else s)

/-- COMMIT (R211, R217, R253): accepted when FCC is IDLE, else refused with FCC_BUSY. -/
def execCommit (s : State) : Host.Outcome State Fault Refusal :=
  .next (if fccBusy s then raise (.cmd .fccBusy) s else startErase s)

/-- LOAD (R214, R217, R253): accepted when FCC is IDLE, else refused with FCC_BUSY. -/
def execLoad (s : State) : Host.Outcome State Fault Refusal :=
  .next (if fccBusy s then raise (.cmd .fccBusy) s else startLoad s)

/-- SET_SWCTX (R252). -/
def execSetSwctx (s : State) : Host.Outcome State Fault Refusal := .next (setFlag .swctx s)

end Sys2Proof.Machine
end

