-- ==== Sys2Proof/Machine/Reads.lean ====
section
/-! DEFINITION. The meanings of the 39 word reads (R242): the read answers the register's value at the start of
the cycle, with no side effect (R77). -/

namespace Sys2Proof.Machine

/-- RD_ID (R242): offset 0x00. -/
def execRdId (s : State) : Host.Outcome State Fault Refusal := .next (respondRead idValue s)

/-- RD_CTRL (R242): offset 0x04. -/
def execRdCtrl (s : State) : Host.Outcome State Fault Refusal := .next (respondRead (ctrlWord s) s)

/-- RD_STATUS (R242): offset 0x08. -/
def execRdStatus (s : State) : Host.Outcome State Fault Refusal := .next (respondRead (statusWord s) s)

/-- RD_FLAGS (R242): offset 0x0C. -/
def execRdFlags (s : State) : Host.Outcome State Fault Refusal := .next (respondRead (flagsWord s) s)

/-- RD_IRQ_EN (R242): offset 0x10. -/
def execRdIrqEn (s : State) : Host.Outcome State Fault Refusal := .next (respondRead (irqEnWord s) s)

/-- RD_CMD (R242): offset 0x14. -/
def execRdCmd (s : State) : Host.Outcome State Fault Refusal := .next (respondRead 0 s)

/-- RD_KEY (R242): offset 0x18. -/
def execRdKey (s : State) : Host.Outcome State Fault Refusal := .next (respondRead (keyWord s) s)

/-- RD_ERR (R242): offset 0x1C. -/
def execRdErr (s : State) : Host.Outcome State Fault Refusal := .next (respondRead (errWord s) s)

/-- RD_DB_PERIOD (R242): offset 0x20. -/
def execRdDbPeriod (s : State) : Host.Outcome State Fault Refusal := .next (respondRead s.dbPeriod s)

/-- RD_POLL_PERIOD (R242): offset 0x24. -/
def execRdPollPeriod (s : State) : Host.Outcome State Fault Refusal := .next (respondRead s.pollPeriod s)

/-- RD_XCV_TIMEOUT (R242): offset 0x28. -/
def execRdXcvTimeout (s : State) : Host.Outcome State Fault Refusal := .next (respondRead s.xcvTimeout s)

/-- RD_DISP_PERIOD (R242): offset 0x2C. -/
def execRdDispPeriod (s : State) : Host.Outcome State Fault Refusal := .next (respondRead s.dispPeriod s)

/-- RD_DB_COUNT (R242): offset 0x30. -/
def execRdDbCount (s : State) : Host.Outcome State Fault Refusal := .next (respondRead s.dbCount s)

/-- RD_POLL_COUNT (R242): offset 0x34. -/
def execRdPollCount (s : State) : Host.Outcome State Fault Refusal := .next (respondRead s.pollCount s)

/-- RD_XCV_COUNT (R242): offset 0x38. -/
def execRdXcvCount (s : State) : Host.Outcome State Fault Refusal := .next (respondRead s.xcvCount s)

/-- RD_DISP_COUNT (R242): offset 0x3C. -/
def execRdDispCount (s : State) : Host.Outcome State Fault Refusal := .next (respondRead s.dispCount s)

/-- RD_TAG_UIDLEN (R242): offset 0x40. -/
def execRdTagUidlen (s : State) : Host.Outcome State Fault Refusal := .next (respondRead (uidlenWord s) s)

/-- RD_TAG_UID0 (R242): offset 0x44. -/
def execRdTagUid0 (s : State) : Host.Outcome State Fault Refusal := .next (respondRead s.tagUid0 s)

/-- RD_TAG_UID1 (R242): offset 0x48. -/
def execRdTagUid1 (s : State) : Host.Outcome State Fault Refusal := .next (respondRead s.tagUid1 s)

/-- RD_TAG_UID2 (R242): offset 0x4C. -/
def execRdTagUid2 (s : State) : Host.Outcome State Fault Refusal := .next (respondRead (uid2Word s) s)

/-- RD_TAG_DATA0 (R242): offset 0x50. -/
def execRdTagData0 (s : State) : Host.Outcome State Fault Refusal := .next (respondRead s.tagData0 s)

/-- RD_TAG_DATA1 (R242): offset 0x54. -/
def execRdTagData1 (s : State) : Host.Outcome State Fault Refusal := .next (respondRead s.tagData1 s)

/-- RD_TAG_DATA2 (R242): offset 0x58. -/
def execRdTagData2 (s : State) : Host.Outcome State Fault Refusal := .next (respondRead s.tagData2 s)

/-- RD_TAG_DATA3 (R242): offset 0x5C. -/
def execRdTagData3 (s : State) : Host.Outcome State Fault Refusal := .next (respondRead s.tagData3 s)

/-- RD_LEDGER0 (R242): offset 0x60. -/
def execRdLedger0 (s : State) : Host.Outcome State Fault Refusal := .next (respondRead (ledgerWord 0 s) s)

/-- RD_LEDGER1 (R242): offset 0x64. -/
def execRdLedger1 (s : State) : Host.Outcome State Fault Refusal := .next (respondRead (ledgerWord 1 s) s)

/-- RD_LEDGER2 (R242): offset 0x68. -/
def execRdLedger2 (s : State) : Host.Outcome State Fault Refusal := .next (respondRead (ledgerWord 2 s) s)

/-- RD_LEDGER3 (R242): offset 0x6C. -/
def execRdLedger3 (s : State) : Host.Outcome State Fault Refusal := .next (respondRead (ledgerWord 3 s) s)

/-- RD_LEDGER4 (R242): offset 0x70. -/
def execRdLedger4 (s : State) : Host.Outcome State Fault Refusal := .next (respondRead (ledgerWord 4 s) s)

/-- RD_LEDGER5 (R242): offset 0x74. -/
def execRdLedger5 (s : State) : Host.Outcome State Fault Refusal := .next (respondRead (ledgerWord 5 s) s)

/-- RD_LEDGER6 (R242): offset 0x78. -/
def execRdLedger6 (s : State) : Host.Outcome State Fault Refusal := .next (respondRead (ledgerWord 6 s) s)

/-- RD_LEDGER7 (R242): offset 0x7C. -/
def execRdLedger7 (s : State) : Host.Outcome State Fault Refusal := .next (respondRead (ledgerWord 7 s) s)

/-- RD_LEDGER8 (R242): offset 0x80. -/
def execRdLedger8 (s : State) : Host.Outcome State Fault Refusal := .next (respondRead (ledgerWord 8 s) s)

/-- RD_LEDGER9 (R242): offset 0x84. -/
def execRdLedger9 (s : State) : Host.Outcome State Fault Refusal := .next (respondRead (ledgerWord 9 s) s)

/-- RD_LEDGER10 (R242): offset 0x88. -/
def execRdLedger10 (s : State) : Host.Outcome State Fault Refusal := .next (respondRead (ledgerWord 10 s) s)

/-- RD_LEDGER11 (R242): offset 0x8C. -/
def execRdLedger11 (s : State) : Host.Outcome State Fault Refusal := .next (respondRead (ledgerWord 11 s) s)

/-- RD_LEDGER12 (R242): offset 0x90. -/
def execRdLedger12 (s : State) : Host.Outcome State Fault Refusal := .next (respondRead (ledgerWord 12 s) s)

/-- RD_LEDGER13 (R242): offset 0x94. -/
def execRdLedger13 (s : State) : Host.Outcome State Fault Refusal := .next (respondRead (ledgerWord 13 s) s)

/-- RD_LEDGER14 (R242): offset 0x98. -/
def execRdLedger14 (s : State) : Host.Outcome State Fault Refusal := .next (respondRead (ledgerWord 14 s) s)

end Sys2Proof.Machine
end

