-- ==== Sys2Proof/Machine/Tag.lean ====
section
/-! DEFINITION. TAG, the tag-acquisition state machine (41_tag.md): TagStep in its phases, and the meanings of the three
reader requests it issues. `S` is the state at the start of the cycle, `acc` the state under construction. -/

namespace Sys2Proof.Machine

/-- TAG disabled (R171). -/
def tagDisable (S acc : State) : State :=
  { acc with rdAbortQ := S.rdPend, tagState := .idle, rdPend := false, pollCount := 0, xcvCount := 0 }

/-- The poll counter (R172, R173). -/
def tagPoll (S acc : State) : State :=
  if tagMode S then { acc with pollCount := 0 }
  else if S.pollCount = 0 then { acc with pollCount := load S.pollPeriod }
  else if tick S && S.pollCount == 1 then { acc with pollCount := load S.pollPeriod }
  else if tick S then { acc with pollCount := S.pollCount - 1 }
  else acc

/-- `due`: the poll trigger occurs in this cycle (R172, R173). -/
def pollDue (S : State) : Bool :=
  if tagMode S then (input S).tagPin && !S.pinPrev
  else tick S && S.pollCount == 1

/-- A live request: outstanding, and past its request cycle (R107, R182). -/
def rdLive (S : State) : Bool := S.rdPend && !S.rdIssue

/-- `rsp`: a response is accepted in this cycle (R107). -/
def rdResponse (S : State) : Bool := rdLive S && (input S).rspValid

/-- `tmo`: the transceive deadline fires in this cycle; a response wins over it (R182). -/
def rdDeadline (S : State) : Bool := rdLive S && !rdResponse S && tick S && S.xcvCount == 1

/-- `st`, when a response is accepted or the deadline fires (R170). -/
def rdOutcome (S : State) : Option RdStatus :=
  if rdResponse S then some (rdStatus (input S).rspStatus)
  else if rdDeadline S then some .timeout
  else none

/-- The transceive's end or countdown (R170, R182). A tick in the request cycle does not count (R182, vector T2), unlike
R296's general sentence on counters (log entry 12, DEDUCED). -/
def tagTransceive (S acc : State) : State :=
  if rdResponse S || rdDeadline S then { acc with rdPend := false, xcvCount := 0, rdAbortQ := rdDeadline S }
  else if rdLive S && tick S then { acc with xcvCount := S.xcvCount - 1 }
  else acc

/-- R178: the UID length of an AUTH response is in 1..10. -/
def uidlenOk (S : State) : Bool := 1 ≤ (input S).rspUidlen.toNat && (input S).rspUidlen.toNat ≤ 10

/-- Issue POLL (R175). -/
def startPoll (S acc : State) : State := issueRdr .poll S acc

/-- POLL answered (R176). -/
def startAuth (S acc : State) : State := issueRdr .auth S { acc with tagState := .authenticating }

/-- AUTH succeeded (R178): the UID is held, not yet visible. -/
def startRead (S acc : State) : State :=
  issueRdr .read S
    { acc with uidSh := (input S).rspUid, uidlenSh := (input S).rspUidlen, tagState := .reading }

/-- `publish` (R180): all session registers in one cycle. -/
def publish (uid : BitVec 80) (len : BitVec 4) (data : BitVec 128) (acc : State) : State :=
  { acc with
    tagUidlen := len
    tagUid0 := (uidKept uid len).extractLsb' 0 32
    tagUid1 := (uidKept uid len).extractLsb' 32 32
    tagUid2 := (uidKept uid len).extractLsb' 64 16
    tagData0 := data.extractLsb' 0 32
    tagData1 := data.extractLsb' 32 32
    tagData2 := data.extractLsb' 64 32
    tagData3 := data.extractLsb' 96 32 }

/-- READ succeeded (R180). -/
def tagPublish (S acc : State) : State :=
  setFlag .tagReady { publish S.uidSh S.uidlenSh (input S).rspData acc with tagState := .present }

/-- A failed AUTH or READ (R179, R181): TagError, back to POLLING. -/
def tagFail (c : TagCause) (acc : State) : State := { raise (.tag c) acc with tagState := .polling }

/-- The cases of TagStep by `tag_state` (R174 to R185). PRESENT is left by SESSION_CLOSE, whose meaning does it (R183). -/
def tagFsm (S acc : State) : State :=
  match S.tagState with
  | .idle => { acc with tagState := .polling }
  | .polling =>
    if !S.rdPend && pollDue S then startPoll S acc
    else match rdOutcome S with
      | some .ok => startAuth S acc
      | some .collision => startAuth S acc
      | _ => acc
  | .authenticating =>
    match rdOutcome S with
    | none => acc
    | some .ok => if uidlenOk S then startRead S acc else tagFail .authReject acc
    | some .timeout => tagFail .authTimeout acc
    | some _ => tagFail .authReject acc
  | .reading =>
    match rdOutcome S with
    | none => acc
    | some .ok => tagPublish S acc
    | some .timeout => tagFail .readTimeout acc
    | some _ => tagFail .readReject acc
  | .present => acc

/-- TagStep (R170). -/
def tagStep (S acc : State) : State :=
  if !tagEn S then tagDisable S acc else tagFsm S (tagTransceive S (tagPoll S acc))

/-- The operands of R_POLL (R175): enabled, POLLING, no request outstanding, a trigger. -/
def pollStarts (S : State) : Bool := tagEn S && S.tagState == .polling && !S.rdPend && pollDue S

/-- The operands of R_AUTH (R176): enabled, POLLING, an accepted response with status OK or COLLISION. -/
def authStarts (S : State) : Bool :=
  tagEn S && S.tagState == .polling && (rdOutcome S == some .ok || rdOutcome S == some .collision)

/-- The operands of R_READ (R178): enabled, AUTHENTICATING, an accepted response with status OK and a legal UID length. -/
def readStarts (S : State) : Bool :=
  tagEn S && S.tagState == .authenticating && rdOutcome S == some .ok && uidlenOk S

/-- R_POLL (R175): the block issues the request when its operands hold; a trigger at another time is lost (R184, R185). -/
def execRPoll (s : State) : Host.Outcome State Fault Refusal := .next (if pollStarts s then startPoll s s else s)

/-- R_AUTH (R176): the block issues the request when its operands hold, and at no other time. -/
def execRAuth (s : State) : Host.Outcome State Fault Refusal := .next (if authStarts s then startAuth s s else s)

/-- R_READ (R178): the block issues the request when its operands hold, and at no other time. -/
def execRRead (s : State) : Host.Outcome State Fault Refusal := .next (if readStarts s then startRead s s else s)

end Sys2Proof.Machine
end

