-- ==== Sys2Proof/Machine/Writes.lean ====
section
/-! DEFINITION. The meanings of the 24 word writes (R243 to R248). Each answers `bus_rdata` = 0 and `bus_err` = 0,
but for a LEDGER write while FCC is busy, which is refused with FCC_BUSY_WRITE (R74, R76). -/

namespace Sys2Proof.Machine

/-- WR_CTRL (R243): bits [3:0] are written, the reserved bits dropped (R23). -/
def execWrCtrl (v : Word) (s : State) : Host.Outcome State Fault Refusal :=
  .next (respondWrite { s with ctrl := v.extractLsb' 0 4 })

/-- WR_STATUS (R246): each sticky bit written 1 is cleared; the views in bits [11:0] are not written. -/
def execWrStatus (v : Word) (s : State) : Host.Outcome State Fault Refusal :=
  .next (respondWrite (clearSticky (v.extractLsb' 16 4) s))

/-- WR_FLAGS (R245): each flag written 1 is cleared. -/
def execWrFlags (v : Word) (s : State) : Host.Outcome State Fault Refusal :=
  .next (respondWrite (clearFlags (v.extractLsb' 0 5) s))

/-- WR_IRQ_EN (R243): bits [4:0] are written, the reserved bits dropped (R23). -/
def execWrIrqEn (v : Word) (s : State) : Host.Outcome State Fault Refusal :=
  .next (respondWrite { s with irqEn := v.extractLsb' 0 5 })

/-- WR_CMD (R248, R249): the command word is decoded; a well-formed command is run, a malformed one raises CmdError. The
bus access itself succeeds either way. -/
def execWrCmd (v : Word) (s : State) : Host.Outcome State Fault Refusal :=
  match decodeCmd v with
  | .error c => .next (respondWrite (raise (.cmd c) s))
  | .ok .nop => execNop (respondWrite s)
  | .ok .sessionClose => execSessionClose (respondWrite s)
  | .ok .commit => execCommit (respondWrite s)
  | .ok .load => execLoad (respondWrite s)
  | .ok .setSwctx => execSetSwctx (respondWrite s)

/-- WR_DB_PERIOD (R244): all 32 bits are written; the running counter is not changed. -/
def execWrDbPeriod (v : Word) (s : State) : Host.Outcome State Fault Refusal :=
  .next (respondWrite { s with dbPeriod := v })

/-- WR_POLL_PERIOD (R244): all 32 bits are written; the running counter is not changed. -/
def execWrPollPeriod (v : Word) (s : State) : Host.Outcome State Fault Refusal :=
  .next (respondWrite { s with pollPeriod := v })

/-- WR_XCV_TIMEOUT (R244): all 32 bits are written; the running counter is not changed. -/
def execWrXcvTimeout (v : Word) (s : State) : Host.Outcome State Fault Refusal :=
  .next (respondWrite { s with xcvTimeout := v })

/-- WR_DISP_PERIOD (R244): all 32 bits are written; the running counter is not changed. -/
def execWrDispPeriod (v : Word) (s : State) : Host.Outcome State Fault Refusal :=
  .next (respondWrite { s with dispPeriod := v })

/-- WR_LEDGER0 (R247). -/
def execWrLedger0 (v : Word) (s : State) : Host.Outcome State Fault Refusal := .next (writeLedger 0 v s)

/-- WR_LEDGER1 (R247). -/
def execWrLedger1 (v : Word) (s : State) : Host.Outcome State Fault Refusal := .next (writeLedger 1 v s)

/-- WR_LEDGER2 (R247). -/
def execWrLedger2 (v : Word) (s : State) : Host.Outcome State Fault Refusal := .next (writeLedger 2 v s)

/-- WR_LEDGER3 (R247). -/
def execWrLedger3 (v : Word) (s : State) : Host.Outcome State Fault Refusal := .next (writeLedger 3 v s)

/-- WR_LEDGER4 (R247). -/
def execWrLedger4 (v : Word) (s : State) : Host.Outcome State Fault Refusal := .next (writeLedger 4 v s)

/-- WR_LEDGER5 (R247). -/
def execWrLedger5 (v : Word) (s : State) : Host.Outcome State Fault Refusal := .next (writeLedger 5 v s)

/-- WR_LEDGER6 (R247). -/
def execWrLedger6 (v : Word) (s : State) : Host.Outcome State Fault Refusal := .next (writeLedger 6 v s)

/-- WR_LEDGER7 (R247). -/
def execWrLedger7 (v : Word) (s : State) : Host.Outcome State Fault Refusal := .next (writeLedger 7 v s)

/-- WR_LEDGER8 (R247). -/
def execWrLedger8 (v : Word) (s : State) : Host.Outcome State Fault Refusal := .next (writeLedger 8 v s)

/-- WR_LEDGER9 (R247). -/
def execWrLedger9 (v : Word) (s : State) : Host.Outcome State Fault Refusal := .next (writeLedger 9 v s)

/-- WR_LEDGER10 (R247). -/
def execWrLedger10 (v : Word) (s : State) : Host.Outcome State Fault Refusal := .next (writeLedger 10 v s)

/-- WR_LEDGER11 (R247). -/
def execWrLedger11 (v : Word) (s : State) : Host.Outcome State Fault Refusal := .next (writeLedger 11 v s)

/-- WR_LEDGER12 (R247). -/
def execWrLedger12 (v : Word) (s : State) : Host.Outcome State Fault Refusal := .next (writeLedger 12 v s)

/-- WR_LEDGER13 (R247). -/
def execWrLedger13 (v : Word) (s : State) : Host.Outcome State Fault Refusal := .next (writeLedger 13 v s)

/-- WR_LEDGER14 (R247). -/
def execWrLedger14 (v : Word) (s : State) : Host.Outcome State Fault Refusal := .next (writeLedger 14 v s)

end Sys2Proof.Machine
end

