-- ==== Sys2Proof/Machine/Dispatch.lean ====
section
/-! DEFINITION. One arm per instruction of the opcode table, each a direct call of its meaning. -/

namespace Sys2Proof.Machine

def exec (i : Instr) (s : State) : Host.Outcome State Fault Refusal :=
  match i with
  | .nop => Sys2Proof.Machine.execNop s
  | .sessionClose => Sys2Proof.Machine.execSessionClose s
  | .commit => Sys2Proof.Machine.execCommit s
  | .load => Sys2Proof.Machine.execLoad s
  | .setSwctx => Sys2Proof.Machine.execSetSwctx s
  | .rdId => Sys2Proof.Machine.execRdId s
  | .rdCtrl => Sys2Proof.Machine.execRdCtrl s
  | .rdStatus => Sys2Proof.Machine.execRdStatus s
  | .rdFlags => Sys2Proof.Machine.execRdFlags s
  | .rdIrqEn => Sys2Proof.Machine.execRdIrqEn s
  | .rdCmd => Sys2Proof.Machine.execRdCmd s
  | .rdKey => Sys2Proof.Machine.execRdKey s
  | .rdErr => Sys2Proof.Machine.execRdErr s
  | .rdDbPeriod => Sys2Proof.Machine.execRdDbPeriod s
  | .rdPollPeriod => Sys2Proof.Machine.execRdPollPeriod s
  | .rdXcvTimeout => Sys2Proof.Machine.execRdXcvTimeout s
  | .rdDispPeriod => Sys2Proof.Machine.execRdDispPeriod s
  | .rdDbCount => Sys2Proof.Machine.execRdDbCount s
  | .rdPollCount => Sys2Proof.Machine.execRdPollCount s
  | .rdXcvCount => Sys2Proof.Machine.execRdXcvCount s
  | .rdDispCount => Sys2Proof.Machine.execRdDispCount s
  | .rdTagUidlen => Sys2Proof.Machine.execRdTagUidlen s
  | .rdTagUid0 => Sys2Proof.Machine.execRdTagUid0 s
  | .rdTagUid1 => Sys2Proof.Machine.execRdTagUid1 s
  | .rdTagUid2 => Sys2Proof.Machine.execRdTagUid2 s
  | .rdTagData0 => Sys2Proof.Machine.execRdTagData0 s
  | .rdTagData1 => Sys2Proof.Machine.execRdTagData1 s
  | .rdTagData2 => Sys2Proof.Machine.execRdTagData2 s
  | .rdTagData3 => Sys2Proof.Machine.execRdTagData3 s
  | .rdLedger0 => Sys2Proof.Machine.execRdLedger0 s
  | .rdLedger1 => Sys2Proof.Machine.execRdLedger1 s
  | .rdLedger2 => Sys2Proof.Machine.execRdLedger2 s
  | .rdLedger3 => Sys2Proof.Machine.execRdLedger3 s
  | .rdLedger4 => Sys2Proof.Machine.execRdLedger4 s
  | .rdLedger5 => Sys2Proof.Machine.execRdLedger5 s
  | .rdLedger6 => Sys2Proof.Machine.execRdLedger6 s
  | .rdLedger7 => Sys2Proof.Machine.execRdLedger7 s
  | .rdLedger8 => Sys2Proof.Machine.execRdLedger8 s
  | .rdLedger9 => Sys2Proof.Machine.execRdLedger9 s
  | .rdLedger10 => Sys2Proof.Machine.execRdLedger10 s
  | .rdLedger11 => Sys2Proof.Machine.execRdLedger11 s
  | .rdLedger12 => Sys2Proof.Machine.execRdLedger12 s
  | .rdLedger13 => Sys2Proof.Machine.execRdLedger13 s
  | .rdLedger14 => Sys2Proof.Machine.execRdLedger14 s
  | .wrCtrl wdata => Sys2Proof.Machine.execWrCtrl wdata s
  | .wrStatus wdata => Sys2Proof.Machine.execWrStatus wdata s
  | .wrFlags wdata => Sys2Proof.Machine.execWrFlags wdata s
  | .wrIrqEn wdata => Sys2Proof.Machine.execWrIrqEn wdata s
  | .wrCmd wdata => Sys2Proof.Machine.execWrCmd wdata s
  | .wrDbPeriod wdata => Sys2Proof.Machine.execWrDbPeriod wdata s
  | .wrPollPeriod wdata => Sys2Proof.Machine.execWrPollPeriod wdata s
  | .wrXcvTimeout wdata => Sys2Proof.Machine.execWrXcvTimeout wdata s
  | .wrDispPeriod wdata => Sys2Proof.Machine.execWrDispPeriod wdata s
  | .wrLedger0 wdata => Sys2Proof.Machine.execWrLedger0 wdata s
  | .wrLedger1 wdata => Sys2Proof.Machine.execWrLedger1 wdata s
  | .wrLedger2 wdata => Sys2Proof.Machine.execWrLedger2 wdata s
  | .wrLedger3 wdata => Sys2Proof.Machine.execWrLedger3 wdata s
  | .wrLedger4 wdata => Sys2Proof.Machine.execWrLedger4 wdata s
  | .wrLedger5 wdata => Sys2Proof.Machine.execWrLedger5 wdata s
  | .wrLedger6 wdata => Sys2Proof.Machine.execWrLedger6 wdata s
  | .wrLedger7 wdata => Sys2Proof.Machine.execWrLedger7 wdata s
  | .wrLedger8 wdata => Sys2Proof.Machine.execWrLedger8 wdata s
  | .wrLedger9 wdata => Sys2Proof.Machine.execWrLedger9 wdata s
  | .wrLedger10 wdata => Sys2Proof.Machine.execWrLedger10 wdata s
  | .wrLedger11 wdata => Sys2Proof.Machine.execWrLedger11 wdata s
  | .wrLedger12 wdata => Sys2Proof.Machine.execWrLedger12 wdata s
  | .wrLedger13 wdata => Sys2Proof.Machine.execWrLedger13 wdata s
  | .wrLedger14 wdata => Sys2Proof.Machine.execWrLedger14 wdata s
  | .rPoll => Sys2Proof.Machine.execRPoll s
  | .rAuth => Sys2Proof.Machine.execRAuth s
  | .rRead => Sys2Proof.Machine.execRRead s
  | .flErase => Sys2Proof.Machine.execFlErase s
  | .flProgram => Sys2Proof.Machine.execFlProgram s
  | .flRead => Sys2Proof.Machine.execFlRead s

end Sys2Proof.Machine
end

