-- ==== Sys2Proof/Machine/Display.lean ====
section
/-! DEFINITION. The shared part's timers: the display tick (R298) and the prescaler (R295). -/

namespace Sys2Proof.Machine

/-- DispStep (R298). -/
def dispStep (S acc : State) : State :=
  if !dispEn S then { acc with dispCount := 0 }
  else if S.dispCount = 0 then { acc with dispCount := load S.dispPeriod }
  else if tick S && S.dispCount == 1 then setFlag .invTick { acc with dispCount := load S.dispPeriod }
  else if tick S then { acc with dispCount := S.dispCount - 1 }
  else acc

/-- The prescaler's next value (R295). -/
def prescNext (S : State) : Nat := if tick S then 0 else S.presc + 1

end Sys2Proof.Machine
end

