-- ==== Sys2Proof/Machine/Keypad.lean ====
section
/-! DEFINITION. KPD, the keypad scanner and debounce engine (40_keypad.md). `S` is the state at the start of the cycle,
`acc` the state under construction. -/

namespace Sys2Proof.Machine

/-- KPD disabled (R131). -/
def kpdDisable (acc : State) : State := { acc with kpState := .disabled, dbCount := 0 }

/-- Some column line is asserted that was not in the previous cycle (R133). -/
def colEdge (S : State) : Bool := (input S).kpCol &&& ~~~S.colPrev != 0

/-- Valid capture (R134): the code and both masks are latched, the rows armed and the debounce timer loaded. -/
def captureKey (code : BitVec 4) (S acc : State) : State :=
  { acc with
    keyCode := code
    keyRow := (input S).kpRow
    keyCol := (input S).kpCol
    kpState := .rowsArmed
    dbCount := load S.dbPeriod }

/-- COLS_ARMED (R133 to R136). -/
def kpdScan (S acc : State) : State :=
  if colEdge S then
    if flagSet S .keyReady then raise .keyOverrun acc
    else match keyDecode S.params (input S).kpRow (input S).kpCol with
      | some code => captureKey code S acc
      | none => acc
  else acc

/-- Finalize (R139). -/
def kpdFinalize (acc : State) : State := setFlag .keyReady { acc with dbCount := 0, kpState := .colsArmed }

/-- ROWS_ARMED (R137 to R140). -/
def kpdDebounce (S acc : State) : State :=
  if (input S).kpRow != S.rowPrev then { acc with dbCount := load S.dbPeriod }
  else if tick S && S.dbCount == 1 then
    if (input S).kpRow != 0 then { acc with dbCount := load S.dbPeriod } else kpdFinalize acc
  else if tick S then { acc with dbCount := S.dbCount - 1 }
  else acc

/-- KpdStep (R130). -/
def kpdStep (S acc : State) : State :=
  if !kpEn S then kpdDisable acc
  else match S.kpState with
    | .disabled => { acc with kpState := .colsArmed }
    | .colsArmed => kpdScan S acc
    | .rowsArmed => kpdDebounce S acc

end Sys2Proof.Machine
end

