-- ==== Sys2Proof/Machine/Cycle.lean ====
section
/-! DEFINITION. The parts of one clock cycle (R50): fetching the host's access from the bus pins, the host's part, the
sub-units and the merge, reset, and the placing of an instruction where the next cycle runs it.

The order of the merge realises R51: the host's part is computed first, from the state at the start of the cycle, and
the sub-steps, which read only the state `S` at the start of the cycle, write over it; so a bit that the hardware sets
stays 1 whatever the host writes to it, and a disabled sub-unit takes its disabled state whatever the command. -/

namespace Sys2Proof.Machine

/-- The host's access in a cycle (R100, R241). -/
inductive Access where
  /-- no access: `bus_valid` = 0 -/
  | none
  /-- refused by a check of R74 that needs no state -/
  | refused (cause : BusCause)
  /-- an instruction of the table -/
  | run (i : Instr)
  deriving DecidableEq, Repr

/-- The access the bus pins of the present cycle give (R100, R101). -/
def fetch (s : State) : Access :=
  if !(input s).busValid then .none
  else match decodeBus (busDescriptor (input s).busWe (input s).busSize (input s).busAddr) (input s).busWdata with
    | .ok i => .run i
    | .error c => .refused c

/-- The state the cycle's writes are laid on: the one-cycle pulses are over (R14, R50) and the bus answers 0 unless an
access says otherwise (R241). -/
def beginCycle (s : State) : State :=
  { s with rdIssue := false, rdAbortQ := false, flIssue := false, busRdata := 0, busErr := false }

/-- HostAccess (R240). -/
def hostPhase (s : State) : Host.Outcome State Fault Refusal :=
  match fetch s with
  | .none => .next (beginCycle s)
  | .refused c => .next (busError c (beginCycle s))
  | .run i => exec i (beginCycle s)

/-- The registers that sample the inputs, the prescaler, and the passing of the cycle's inputs (R50). -/
def endCycle (S acc : State) : State :=
  { acc with
    presc := prescNext S
    colPrev := (input S).kpCol
    rowPrev := (input S).kpRow
    pinPrev := (input S).tagPin
    inputs := S.inputs.tail }

/-- The sub-units' part of the cycle (R50), over the host's part. -/
def subUnits (S acc : State) : State := dispStep S (fccStep S (tagStep S (kpdStep S acc)))

/-- All of the cycle but the host's part. -/
def finishCycle (S acc : State) : State := endCycle S (subUnits S acc)

/-- A cycle with `rst` = 1 (R320): ResetState. Not part of it, and kept: the flash array (R323), whose ledger sector is
left at any value when a commit was running (R219, R324), the coming inputs, and the parameters. -/
def resetCycle (s : State) : State :=
  { State.reset with
    flash := (if irqHold s then sectorFreed s else s).flash
    freeIdx := (if irqHold s then sectorFreed s else s).freeIdx
    inputs := s.inputs.tail
    params := s.params }

/-! The output pins (R45). -/

/-- The output pins of one cycle. `flReqWdata` carries byte i of the page image in bits [8i+7:8i] (log entry 6). -/
structure Outputs where
  senseMode : Bool
  irq : Bool
  rdReqValid : Bool
  rdReqOp : BitVec 2
  rdReqBlock : BitVec 8
  rdReqKey : BitVec 48
  rdAbort : Bool
  flReqValid : Bool
  flReqOp : BitVec 2
  flReqAddr : BitVec 32
  flReqLen : BitVec 9
  flReqWdata : BitVec 2048
  busRdata : Word
  busErr : Bool
  deriving DecidableEq, Repr

/-- `fl_req_len` (R45, R108). -/
def flReqLen : FlOp → BitVec 9
  | .erase => 0
  | .program => 256
  | .read => 60

/-- `bus_rdata` and `bus_err` of the present cycle, combinational on the access (R45, R240); 0 in a cycle of `rst`
(R322). -/
def busResponse (s : State) : Word × Bool :=
  if (input s).rst then (0, false)
  else match hostPhase s with
    | .next h => (h.busRdata, h.busErr)
    | _ => (0, false)

/-- The output pins of the present cycle (R45, R288). -/
def outputs (s : State) : Outputs where
  senseMode := s.kpState == .rowsArmed
  irq := irq s
  rdReqValid := s.rdIssue
  rdReqOp := rdOpCode s.rdOp
  rdReqBlock := s.params.tagBlock
  rdReqKey := s.params.authKey
  rdAbort := s.rdAbortQ
  flReqValid := s.flIssue
  flReqOp := flOpCode s.flOp
  flReqAddr := BitVec.ofNat 32 (sectorBase s.params)
  flReqLen := flReqLen s.flOp
  flReqWdata := BitVec.ofNat 2048 (packBytes (pageImage s.ledger))
  busRdata := (busResponse s).1
  busErr := (busResponse s).2

/-! Placing an instruction where the next cycle runs it (log entry 8). -/

/-- The state with the pins of the present cycle changed. -/
def withInput (f : Inputs → Inputs) (s : State) : State := { s with inputs := f (input s) :: s.inputs.tail }

/-- A host access on the bus pins, in a cycle without `rst`. -/
def placeAccess (d : BitVec 11) (v : Word) (s : State) : State :=
  withInput (fun i =>
    { i with
      rst := false, busValid := true, busWe := descWe d, busSize := descSize d, busAddr := descAddr d, busWdata := v }) s

/-- No host access and no `rst`, with the reader's and the flash's response pins as given. -/
def placeEvent (f : Inputs → Inputs) (s : State) : State := withInput (fun i => { f i with rst := false, busValid := false }) s

/-- A state whose next cycle issues a reader request (R175, R176, R178). -/
def placeRdr (op : BitVec 2) (s : State) : State :=
  match op with
  | 0#2 =>
    placeEvent (fun i => { i with tagPin := true })
      { s with ctrl := s.ctrl ||| 6, tagState := .polling, rdPend := false, pinPrev := false }
  | 1#2 =>
    placeEvent (fun i => { i with rspValid := true, rspStatus := 0 })
      { s with ctrl := s.ctrl ||| 2, tagState := .polling, rdPend := true, rdIssue := false }
  | 2#2 =>
    placeEvent (fun i => { i with rspValid := true, rspStatus := 0, rspUidlen := 4 })
      { s with ctrl := s.ctrl ||| 2, tagState := .authenticating, rdPend := true, rdIssue := false }
  | _ => s

/-- A state whose next cycle issues a flash request (R211, R212, R214). -/
def placeFlp (op : BitVec 2) (s : State) : State :=
  match op with
  | 0#2 => placeAccess 0x614 2 { s with fccState := .idle }
  | 1#2 =>
    placeEvent (fun i => { i with flAck := true })
      { s with fccState := .erasing, flPend := true, flIssue := false }
  | 2#2 => placeAccess 0x614 3 { s with fccState := .idle }
  | _ => s

/-- The instruction with the given words placed where the next cycle runs it: a bus access on the bus pins, a command
word in a CMD write (R248), a port request in the situation that issues it. -/
def placeEncoding (e : Encoding) (s : State) : State :=
  match e with
  | .bus d v => placeAccess d v s
  | .cmd w => placeAccess 0x614 w s
  | .rdr op => placeRdr op s
  | .flp op => placeFlp op s

/-- `placeEncoding` of an opcode-table word; a word that is of no format changes nothing. -/
def placeTableWord (nbits w : Nat) (s : State) : State :=
  match tableEncoding nbits w with
  | none => s
  | some e => placeEncoding e s

end Sys2Proof.Machine
end

