-- ==== Sys2Proof/Machine/Step.lean ====
section
/-! DEFINITION. One clock cycle of the block (R50, R320), and where its next instruction stands. -/

namespace Sys2Proof.Machine

/-- One step is one clock cycle (R50). -/
def step (s : State) : Host.Outcome State Fault Refusal :=
  if (input s).rst then .next (resetCycle s)
  else match hostPhase s with
    | .next h => .next (finishCycle s h)
    | .fault f => .fault f
    | .refused r => .refused r

/-- The state with an opcode-table word stored where the next step takes its instruction from (log entry 8). -/
def State.withFetchWord (s : State) (nbits w : Nat) : State := placeTableWord nbits w s

end Sys2Proof.Machine
end

