-- ==== Sys2Proof/Safety.lean ====
section
/-! DEFINITION. What statements about runs of the block are phrased in: the quiescent states of R52, the port contracts
the environment must meet (R81, R186), what the host does in a cycle, and the invariant of the block's state. -/

namespace Sys2Proof.Machine

/-- The block is quiescent in the cycle (R52). -/
def quiescent (s : State) : Bool :=
  (s.kpState == .disabled || s.kpState == .colsArmed) && s.dbCount == 0
    && (s.tagState == .idle || s.tagState == .present || (s.tagState == .polling && !s.rdPend))
    && s.fccState == .idle

/-- What the flash port contract asks of the present cycle (R81): an acknowledgement only for an outstanding request and
after its request cycle, and, for FL_READ, the page's bytes. That every request is acknowledged once and after finitely
many cycles is a property of a run, not of a cycle. -/
def flashContract (s : State) : Prop :=
  (input s).flAck = true →
    s.flPend = true ∧ s.flIssue = false ∧ (s.fccState = .loading → (input s).flRdata = pageRdata s)

/-- What the reader port contract asks of the present cycle (R186, R335): a response only for an outstanding request and
after its request cycle. -/
def readerContract (s : State) : Prop := (input s).rspValid = true → s.rdPend = true ∧ s.rdIssue = false

/-- The state in whose present cycle the host makes no access, all else being the same (R241). -/
def withoutAccess (s : State) : State := withInput (fun i => { i with busValid := false }) s

/-- The host writes the flag's bit of FLAGS as 1 in the present cycle (R245). -/
def hostClearsFlag (s : State) (f : Flag) : Bool :=
  match fetch s with
  | .run (.wrFlags v) => v.getLsbD (flagIndex f)
  | _ => false

/-- The command that the host's CMD write of the present cycle carries, if it is well formed (R248). -/
def hostCommand (s : State) : Option Command :=
  match fetch s with
  | .run (.wrCmd v) => (decodeCmd v).toOption
  | _ => none

/-- The host writes CTRL in the present cycle (R243). -/
def hostWritesCtrl (s : State) : Bool :=
  match fetch s with
  | .run (.wrCtrl _) => true
  | _ => false

/-- A key's debounce cycle ends in this cycle and KEY_READY is set (R139). -/
def keyFinalizes (s : State) : Bool :=
  kpEn s && s.kpState == .rowsArmed && (input s).kpRow == s.rowPrev && tick s && s.dbCount == 1 && (input s).kpRow == 0

/-- A valid key is captured in this cycle (R134). -/
def keyCaptured (s : State) : Bool :=
  kpEn s && s.kpState == .colsArmed && colEdge s && !flagSet s .keyReady
    && (keyDecode s.params (input s).kpRow (input s).kpCol).isSome

/-- A tag session is published in this cycle and TAG_READY is set (R180). -/
def tagPublishes (s : State) : Bool := tagEn s && s.tagState == .reading && rdOutcome s == some .ok

/-- The display tick expires in this cycle and INV_TICK is set (R298). -/
def displayExpires (s : State) : Bool := dispEn s && tick s && s.dispCount == 1

/-- A COMMIT or LOAD completes in this cycle and FCC_DONE is set (R213, R215). -/
def fccCompletes (s : State) : Bool := (s.fccState == .programming || s.fccState == .loading) && flAcked s

/-- The event that sets a flag happens in this cycle (R27, R289). -/
def flagEvent (s : State) : Flag → Bool
  | .keyReady => keyFinalizes s
  | .tagReady => tagPublishes s
  | .swctx => hostCommand s == some .setSwctx
  | .invTick => displayExpires s
  | .fccDone => fccCompletes s

/-- The registers of a tag session (R36, R37), in one word. -/
def sessionRegs (s : State) : BitVec 212 :=
  s.tagData3 ++ s.tagData2 ++ s.tagData1 ++ s.tagData0 ++ s.tagUid2 ++ s.tagUid1 ++ s.tagUid0 ++ s.tagUidlen

/-- The KEY register's fields (R34), in one word. -/
def keyRegs (s : State) : BitVec 12 := s.keyCol ++ s.keyRow ++ s.keyCode

/-- The UID registers as the ten bytes 0..9 (R36). -/
def tagUid (s : State) : BitVec 80 := s.tagUid2 ++ s.tagUid1 ++ s.tagUid0

/-- The invariant of the block: what holds in ResetState and is kept by every cycle, whatever the inputs. -/
structure Inv (s : State) : Prop where
  /-- R43: the prescaler stays below TICK_CYCLES -/
  presc_lt : s.presc < s.params.tickCycles
  /-- R130: in ROWS_ARMED the debounce counter is running -/
  rows_counting : s.kpState = .rowsArmed → s.dbCount ≠ 0
  /-- R297: outside ROWS_ARMED the debounce counter is stopped -/
  not_rows_stopped : s.kpState ≠ .rowsArmed → s.dbCount = 0
  /-- R139: no key is pending while a debounce cycle runs -/
  rows_key_clear : s.kpState = .rowsArmed → flagSet s .keyReady = false
  /-- R34: KEY is 0 or what a valid capture wrote -/
  key_decoded : (s.keyCode = 0 ∧ s.keyRow = 0 ∧ s.keyCol = 0) ∨
    keyDecode s.params s.keyRow s.keyCol = some s.keyCode
  /-- R41: a reader request is outstanding only while TAG polls, authenticates or reads, and is the one of that state -/
  rd_pend_state : s.rdPend = true →
    (s.tagState = .polling ∧ s.rdOp = .poll) ∨ (s.tagState = .authenticating ∧ s.rdOp = .auth)
      ∨ (s.tagState = .reading ∧ s.rdOp = .read)
  /-- R176, R178: AUTHENTICATING and READING wait for a request -/
  rd_state_pend : s.tagState = .authenticating ∨ s.tagState = .reading → s.rdPend = true
  /-- R107: the request cycle is one of an outstanding request -/
  rd_issue_pend : s.rdIssue = true → s.rdPend = true
  /-- R171, R182: an abort leaves no request outstanding -/
  rd_abort_free : s.rdAbortQ = true → s.rdPend = false
  /-- R297: the deadline runs exactly while a request is outstanding -/
  xcv_running : s.rdPend = true ↔ s.xcvCount ≠ 0
  /-- R178: the UID held while READING has a legal length -/
  uid_held : s.tagState = .reading → 1 ≤ s.uidlenSh.toNat ∧ s.uidlenSh.toNat ≤ 10
  /-- R36: the stored UID's length -/
  uidlen_le : s.tagUidlen.toNat ≤ 10
  /-- R36: UID bytes at or above TAG_UIDLEN read 0 -/
  uid_tail : ∀ i, i < 10 → s.tagUidlen.toNat ≤ i → (tagUid s).extractLsb' (8 * i) 8 = 0#8
  /-- R42: a flash request is outstanding exactly while FCC is busy, and is the one of that state -/
  fl_pend_state : s.flPend = fccBusy s
  /-- R108, R210: the op of the outstanding flash request -/
  fl_op_state : (s.fccState = .erasing → s.flOp = .erase) ∧ (s.fccState = .programming → s.flOp = .program)
    ∧ (s.fccState = .loading → s.flOp = .read)
  /-- R109: the request cycle is one of an outstanding request -/
  fl_issue_pend : s.flIssue = true → s.flPend = true
  /-- R281 to R283: only the causes of the tables are held -/
  causes_legal : s.tagCause.toNat ≤ 4 ∧ s.cmdCause.toNat ≤ 3 ∧ s.busCause.toNat ≤ 5
  /-- R280: a sticky bit of a class that has causes comes with one -/
  sticky_cause : (s.sticky.getLsbD 1 = true → s.tagCause ≠ 0) ∧ (s.sticky.getLsbD 2 = true → s.cmdCause ≠ 0)
    ∧ (s.sticky.getLsbD 3 = true → s.busCause ≠ 0)
  /-- the flash array is in its canonical form -/
  flash_wf : flashWf s.flash = true
  /-- R71: every listed byte is within FLASH_SIZE -/
  flash_bound : ∀ c ∈ s.flash, c.1 < s.params.flashSize

end Sys2Proof.Machine
end

