-- ==== Sys2Proof/Certificates/Slice0/Obligations.lean ====
section
/-! DEFINITION. The statements for the provers: what the spec's rules say an instruction or a cycle of the block does. A
statement about a sub-unit is about a whole cycle, `step`; a statement about an instruction is about `exec`, which gives
the instruction's own effect, and `StepRunsTheHostAccess` and `StepIssuesThePortRequest` say how a cycle runs it. A frame
is said by an equation of records: `t = { s with f := …, … }` says that every field not named, so every other register, every
flag and every byte of the flash array, is unchanged. -/

open Sys2Proof Sys2Proof.Machine

/-! ## Encodings -/

/-- Decoding and encoding agree (30_encoding.md): words decode to `i` exactly when, a read's unused write data aside, they
are the words of `i`. So `decode (encode i)` is `i`, and no bit of an encoding is dropped. -/
def Obligations.DecodeAndEncodeAgree : Prop :=
  ∀ (e : Encoding) (i : Instr), decode e = .ok i ↔ e.withoutReadData = encode i

/-- The checks of R74 on a host access that need no state, in their order, and that any other access is an instruction. -/
def Obligations.DescriptorChecksInOrder : Prop :=
  ∀ (we : Bool) (size : BitVec 2) (a : BitVec 8) (v : Word),
    if size ≠ 2 then decodeBus (busDescriptor we size a) v = .error .size
    else if a.extractLsb' 0 2 ≠ 0 then decodeBus (busDescriptor we size a) v = .error .misaligned
    else if 0x9C ≤ a.toNat then decodeBus (busDescriptor we size a) v = .error .unmapped
    else if we = true ∧ a.toNat ∈ [0x00, 0x18, 0x1C, 0x30, 0x34, 0x38, 0x3C, 0x40, 0x44, 0x48, 0x4C, 0x50, 0x54, 0x58, 0x5C]
      then decodeBus (busDescriptor we size a) v = .error .writeRo
    else ∃ i, decodeBus (busDescriptor we size a) v = .ok i

/-- One word of each family of instructions, written out from its encoding. -/
def Obligations.SampleWordsDecode : Prop :=
  decode (.bus 0b01000001000 0) = .ok .rdStatus ∧ decode (.bus 0b11001101100 7) = .ok (.wrLedger3 7)
    ∧ decode (.cmd 0x00000002) = .ok .commit ∧ decode (.cmd 0x00000100) = .error (.cmd .reservedBits)
    ∧ decode (.rdr 0b01) = .ok .rAuth ∧ decode (.flp 0b10) = .ok .flRead

/-! ## The cycle -/

/-- The block is never finished: it runs for as long as it is clocked (R52). A cycle without reset samples the column lines, the
row lines and the presence pin, whatever else it does (R40, R41, R50). No cycle changes the parameters (R8), which stand in the
state, as the coming inputs do, by the model's choice (log entries 3 and 1, DESIGN CHOICE). -/
def Obligations.EveryCycleHasANextState : Prop :=
  ∀ s : State, ∃ t, step s = .next t ∧ t.params = s.params ∧ t.inputs = s.inputs.tail
    ∧ ((input s).rst = false →
        t.colPrev = (input s).kpCol ∧ t.rowPrev = (input s).kpRow ∧ t.pinPrev = (input s).tagPin)

/-- A cycle without reset in which the host's access decodes to `i` runs `i` on the state at the start of the cycle, its
pulses over (R240), and every sub-unit from the state at the start of the cycle (R50). R50 merges the parts by the
priorities of R51 and gives no order: that KpdStep, TagStep, FccStep and DispStep are laid over the host's part, in that
order, is the model's realisation of that merge (log entry 10, DEDUCED). -/
def Obligations.StepRunsTheHostAccess : Prop :=
  ∀ (s : State) (i : Instr), (input s).rst = false → (input s).busValid = true →
    decodeBus (busDescriptor (input s).busWe (input s).busSize (input s).busAddr) (input s).busWdata = .ok i →
    ∃ h t, exec i (beginCycle s) = .next h ∧ step s = .next t
      ∧ t = endCycle s (dispStep s (fccStep s (tagStep s (kpdStep s h))))
      ∧ t.colPrev = (input s).kpCol ∧ t.rowPrev = (input s).kpRow ∧ t.pinPrev = (input s).tagPin ∧ t.params = s.params

/-- A cycle in which the operands of a port request hold leaves the port as the request's own meaning does (R175, R176,
R178, R212); a COMMIT or LOAD accepted does what FL_ERASE or FL_READ does (R211, R214). That a port request has a meaning
of its own, run where its operands hold, is the model's choice (log entry 8, DESIGN CHOICE). -/
def Obligations.StepIssuesThePortRequest : Prop :=
  ∀ (s t : State), (input s).rst = false → step s = .next t →
    (∀ (i : Instr) (r : State), exec i s = .next r →
      ((i = .rPoll ∧ pollStarts s = true) ∨ (i = .rAuth ∧ authStarts s = true) ∨ (i = .rRead ∧ readStarts s = true) →
        t.rdIssue = true ∧ t.rdIssue = r.rdIssue ∧ t.rdOp = r.rdOp ∧ t.rdPend = r.rdPend ∧ t.xcvCount = r.xcvCount
          ∧ t.tagState = r.tagState ∧ t.uidSh = r.uidSh ∧ t.uidlenSh = r.uidlenSh) ∧
      ((i = .flErase ∧ s.fccState = .idle ∧ hostCommand s = some .commit) ∨
        (i = .flRead ∧ s.fccState = .idle ∧ hostCommand s = some .load) ∨
        (i = .flProgram ∧ s.fccState = .erasing ∧ flAcked s = true) →
        t.flIssue = true ∧ t.flIssue = r.flIssue ∧ t.flOp = r.flOp ∧ t.flPend = r.flPend ∧ t.fccState = r.fccState))

/-! ## Host accesses: the whole cycle against the same cycle without the access -/

/-- A refused access changes nothing but BUS_ERR and BUS_CAUSE; the causes are checked in the order of R74, and a read of
a mapped register is never refused. -/
def Obligations.RefusedAccessOnlyRecordsItsCause : Prop :=
  ∀ (s t : State), (input s).rst = false → (input s).busValid = true → step (withoutAccess s) = .next t →
    let a := (input s).busAddr.toNat
    let refusedWith := fun code : BitVec 3 =>
      step s = .next { t with sticky := t.sticky ||| 0b1000, busCause := code, busErr := true, busRdata := 0 }
        ∧ busResponse s = (0, true)
    if (input s).busSize ≠ 2 then refusedWith 1
    else if a % 4 ≠ 0 then refusedWith 2
    else if 0x9C ≤ a then refusedWith 3
    else if (input s).busWe = true ∧
        a ∈ [0x00, 0x18, 0x1C, 0x30, 0x34, 0x38, 0x3C, 0x40, 0x44, 0x48, 0x4C, 0x50, 0x54, 0x58, 0x5C] then refusedWith 4
    else if (input s).busWe = true ∧ 0x60 ≤ a ∧ s.fccState ≠ .idle then refusedWith 5
    else (busResponse s).2 = false

/-- A read has no side effect: the cycle is the cycle without it, but for the answer (R77, R242). -/
def Obligations.ReadCycleHasNoSideEffect : Prop :=
  ∀ (s t : State), (input s).rst = false → (input s).busValid = true → (input s).busWe = false → (input s).busSize = 2 →
    (input s).busAddr.toNat % 4 = 0 → (input s).busAddr.toNat < 0x9C → step (withoutAccess s) = .next t →
    step s = .next { t with busRdata := (busResponse s).1 } ∧ (busResponse s).2 = false

/-- A write of CTRL, IRQ_EN or a period register is first seen by the sub-units in the next cycle: its own cycle is the
cycle without it, but for the register (R50, R328, R334). A cycle that does not write one of these registers keeps it. -/
def Obligations.ControlWriteActsFromTheNextCycle : Prop :=
  ∀ (s t u : State) (v : Word), (input s).rst = false → step (withoutAccess s) = .next t → step s = .next u →
    ((∀ w, fetch s ≠ .run (.wrCtrl w)) → u.ctrl = s.ctrl) ∧ ((∀ w, fetch s ≠ .run (.wrIrqEn w)) → u.irqEn = s.irqEn)
    ∧ ((∀ w, fetch s ≠ .run (.wrDbPeriod w)) → u.dbPeriod = s.dbPeriod)
    ∧ ((∀ w, fetch s ≠ .run (.wrPollPeriod w)) → u.pollPeriod = s.pollPeriod)
    ∧ ((∀ w, fetch s ≠ .run (.wrXcvTimeout w)) → u.xcvTimeout = s.xcvTimeout)
    ∧ ((∀ w, fetch s ≠ .run (.wrDispPeriod w)) → u.dispPeriod = s.dispPeriod)
    ∧ (fetch s = .run (.wrCtrl v) → step s = .next { t with ctrl := v.extractLsb' 0 4 })
    ∧ (fetch s = .run (.wrIrqEn v) → step s = .next { t with irqEn := v.extractLsb' 0 5 })
    ∧ (fetch s = .run (.wrDbPeriod v) → step s = .next { t with dbPeriod := v })
    ∧ (fetch s = .run (.wrPollPeriod v) → step s = .next { t with pollPeriod := v })
    ∧ (fetch s = .run (.wrXcvTimeout v) → step s = .next { t with xcvTimeout := v })
    ∧ (fetch s = .run (.wrDispPeriod v) → step s = .next { t with dispPeriod := v })

/-- A read of a register in the cycle after a host write to it returns the written value, through the field masks
(R256). -/
def Obligations.ReadReturnsTheLastWrite : Prop :=
  ∀ (s t : State) (v : Word), (input s).rst = false → (input t).rst = false → step s = .next t →
    (fetch s = .run (.wrCtrl v) → fetch t = .run .rdCtrl → busResponse t = (v &&& 0xF, false))
    ∧ (fetch s = .run (.wrIrqEn v) → fetch t = .run .rdIrqEn → busResponse t = (v &&& 0x1F, false))
    ∧ (fetch s = .run (.wrDbPeriod v) → fetch t = .run .rdDbPeriod → busResponse t = (v, false))
    ∧ (fetch s = .run (.wrPollPeriod v) → fetch t = .run .rdPollPeriod → busResponse t = (v, false))
    ∧ (fetch s = .run (.wrXcvTimeout v) → fetch t = .run .rdXcvTimeout → busResponse t = (v, false))
    ∧ (fetch s = .run (.wrDispPeriod v) → fetch t = .run .rdDispPeriod → busResponse t = (v, false))
    ∧ (∀ i j : Instr, (i, j) ∈
        [(Instr.wrLedger0 v, Instr.rdLedger0), (.wrLedger1 v, .rdLedger1), (.wrLedger2 v, .rdLedger2),
          (.wrLedger3 v, .rdLedger3), (.wrLedger4 v, .rdLedger4), (.wrLedger5 v, .rdLedger5),
          (.wrLedger6 v, .rdLedger6), (.wrLedger7 v, .rdLedger7), (.wrLedger8 v, .rdLedger8),
          (.wrLedger9 v, .rdLedger9), (.wrLedger10 v, .rdLedger10), (.wrLedger11 v, .rdLedger11),
          (.wrLedger12 v, .rdLedger12), (.wrLedger13 v, .rdLedger13), (.wrLedger14 v, .rdLedger14)] →
      s.fccState = .idle → fetch s = .run i → fetch t = .run j → busResponse t = (v, false))

/-! ## Word reads -/

/-- What the reads of ID, CTRL, STATUS, FLAGS, IRQ_EN, CMD, KEY and ERR answer, field by field (R242, R24 to R29, R34,
R35), the state fields of STATUS by the codes of R26, with nothing else changed. -/
def Obligations.FieldReadsAnswerTheFields : Prop :=
  ∀ s : State,
    exec .rdId s = .next { s with busRdata := 0x494D5207, busErr := false }
    ∧ exec .rdCmd s = .next { s with busRdata := 0, busErr := false }
    ∧ (∃ w, exec .rdCtrl s = .next { s with busRdata := w, busErr := false }
        ∧ w.extractLsb' 0 4 = s.ctrl ∧ w.extractLsb' 4 28 = 0)
    ∧ (∃ w, exec .rdFlags s = .next { s with busRdata := w, busErr := false }
        ∧ w.extractLsb' 0 5 = s.flags ∧ w.extractLsb' 5 27 = 0)
    ∧ (∃ w, exec .rdIrqEn s = .next { s with busRdata := w, busErr := false }
        ∧ w.extractLsb' 0 5 = s.irqEn ∧ w.extractLsb' 5 27 = 0)
    ∧ (∃ w, exec .rdStatus s = .next { s with busRdata := w, busErr := false }
        ∧ (s.kpState = .disabled → w.extractLsb' 0 2 = 0) ∧ (s.kpState = .colsArmed → w.extractLsb' 0 2 = 1)
        ∧ (s.kpState = .rowsArmed → w.extractLsb' 0 2 = 2)
        ∧ w.extractLsb' 2 2 = 0
        ∧ (s.tagState = .idle → w.extractLsb' 4 3 = 0) ∧ (s.tagState = .polling → w.extractLsb' 4 3 = 1)
        ∧ (s.tagState = .authenticating → w.extractLsb' 4 3 = 2) ∧ (s.tagState = .reading → w.extractLsb' 4 3 = 3)
        ∧ (s.tagState = .present → w.extractLsb' 4 3 = 4)
        ∧ w.getLsbD 7 = s.rdPend
        ∧ (s.fccState = .idle → w.extractLsb' 8 2 = 0) ∧ (s.fccState = .erasing → w.extractLsb' 8 2 = 1)
        ∧ (s.fccState = .programming → w.extractLsb' 8 2 = 2) ∧ (s.fccState = .loading → w.extractLsb' 8 2 = 3)
        ∧ (w.getLsbD 10 = true ↔ s.fccState ≠ .idle)
        ∧ (w.getLsbD 11 = true ↔ s.fccState = .erasing ∨ s.fccState = .programming)
        ∧ w.extractLsb' 12 4 = 0 ∧ w.extractLsb' 16 4 = s.sticky ∧ w.extractLsb' 20 12 = 0)
    ∧ (∃ w, exec .rdKey s = .next { s with busRdata := w, busErr := false }
      ∧ w.extractLsb' 0 4 = s.keyCode ∧ w.extractLsb' 4 4 = 0 ∧ w.extractLsb' 8 4 = s.keyRow
      ∧ w.extractLsb' 12 4 = s.keyCol ∧ w.extractLsb' 16 16 = 0)
    ∧ (∃ w, exec .rdErr s = .next { s with busRdata := w, busErr := false }
      ∧ w.extractLsb' 0 3 = s.tagCause ∧ w.extractLsb' 3 5 = 0 ∧ w.extractLsb' 8 3 = s.cmdCause
      ∧ w.extractLsb' 11 5 = 0 ∧ w.extractLsb' 16 3 = s.busCause ∧ w.extractLsb' 19 13 = 0)

/-- What the reads of the period registers, of the counters and of LEDGER0..14 answer; a read of LEDGER is allowed while
FCC is busy (R242, R38, R39, R76). -/
def Obligations.WordReadsAnswerTheRegister : Prop :=
  ∀ s : State,
    exec .rdDbPeriod s = .next { s with busRdata := s.dbPeriod, busErr := false }
    ∧ exec .rdPollPeriod s = .next { s with busRdata := s.pollPeriod, busErr := false }
    ∧ exec .rdXcvTimeout s = .next { s with busRdata := s.xcvTimeout, busErr := false }
    ∧ exec .rdDispPeriod s = .next { s with busRdata := s.dispPeriod, busErr := false }
    ∧ exec .rdDbCount s = .next { s with busRdata := s.dbCount, busErr := false }
    ∧ exec .rdPollCount s = .next { s with busRdata := s.pollCount, busErr := false }
    ∧ exec .rdXcvCount s = .next { s with busRdata := s.xcvCount, busErr := false }
    ∧ exec .rdDispCount s = .next { s with busRdata := s.dispCount, busErr := false }
    ∧ exec .rdLedger0 s = .next { s with busRdata := s.ledger[0], busErr := false }
    ∧ exec .rdLedger1 s = .next { s with busRdata := s.ledger[1], busErr := false }
    ∧ exec .rdLedger2 s = .next { s with busRdata := s.ledger[2], busErr := false }
    ∧ exec .rdLedger3 s = .next { s with busRdata := s.ledger[3], busErr := false }
    ∧ exec .rdLedger4 s = .next { s with busRdata := s.ledger[4], busErr := false }
    ∧ exec .rdLedger5 s = .next { s with busRdata := s.ledger[5], busErr := false }
    ∧ exec .rdLedger6 s = .next { s with busRdata := s.ledger[6], busErr := false }
    ∧ exec .rdLedger7 s = .next { s with busRdata := s.ledger[7], busErr := false }
    ∧ exec .rdLedger8 s = .next { s with busRdata := s.ledger[8], busErr := false }
    ∧ exec .rdLedger9 s = .next { s with busRdata := s.ledger[9], busErr := false }
    ∧ exec .rdLedger10 s = .next { s with busRdata := s.ledger[10], busErr := false }
    ∧ exec .rdLedger11 s = .next { s with busRdata := s.ledger[11], busErr := false }
    ∧ exec .rdLedger12 s = .next { s with busRdata := s.ledger[12], busErr := false }
    ∧ exec .rdLedger13 s = .next { s with busRdata := s.ledger[13], busErr := false }
    ∧ exec .rdLedger14 s = .next { s with busRdata := s.ledger[14], busErr := false }

/-- What the reads of the tag session registers answer: byte `i` of the UID is in TAG_UID(i div 4) at bits
[8(i mod 4)+7 : 8(i mod 4)] (R36, R78). -/
def Obligations.TagSessionReadsAnswerTheBytes : Prop :=
  ∀ s : State,
    (∃ w, exec .rdTagUidlen s = .next { s with busRdata := w, busErr := false }
      ∧ w.extractLsb' 0 4 = s.tagUidlen ∧ w.extractLsb' 4 28 = 0)
    ∧ (∃ w0 w1 w2, exec .rdTagUid0 s = .next { s with busRdata := w0, busErr := false }
      ∧ exec .rdTagUid1 s = .next { s with busRdata := w1, busErr := false }
      ∧ exec .rdTagUid2 s = .next { s with busRdata := w2, busErr := false } ∧ w2.extractLsb' 16 16 = 0
      ∧ ∀ i, i < 10 →
        ([w0, w1, w2][i / 4]?.map fun w => w.extractLsb' (8 * (i % 4)) 8) = some ((tagUid s).extractLsb' (8 * i) 8))
    ∧ exec .rdTagData0 s = .next { s with busRdata := s.tagData0, busErr := false }
    ∧ exec .rdTagData1 s = .next { s with busRdata := s.tagData1, busErr := false }
    ∧ exec .rdTagData2 s = .next { s with busRdata := s.tagData2, busErr := false }
    ∧ exec .rdTagData3 s = .next { s with busRdata := s.tagData3, busErr := false }

/-! ## Word writes -/

/-- A write of CTRL, IRQ_EN or a period register replaces its defined fields and nothing else (R243, R244); KP_EN, TAG_EN,
TAG_MODE and DISP_EN are bits 0 to 3 of CTRL (R25). -/
def Obligations.RegisterWritesReplaceTheFields : Prop :=
  ∀ (s : State) (v : Word),
    (∃ c, exec (.wrCtrl v) s = .next { s with ctrl := c, busRdata := 0, busErr := false }
      ∧ ∀ i, i < 4 → c.getLsbD i = v.getLsbD i)
    ∧ (∀ t, exec (.wrCtrl v) s = .next t → kpEn t = v.getLsbD 0 ∧ tagEn t = v.getLsbD 1 ∧ tagMode t = v.getLsbD 2
      ∧ dispEn t = v.getLsbD 3)
    ∧ (∃ e, exec (.wrIrqEn v) s = .next { s with irqEn := e, busRdata := 0, busErr := false }
      ∧ ∀ i, i < 5 → e.getLsbD i = v.getLsbD i)
    ∧ exec (.wrDbPeriod v) s = .next { s with dbPeriod := v, busRdata := 0, busErr := false }
    ∧ exec (.wrPollPeriod v) s = .next { s with pollPeriod := v, busRdata := 0, busErr := false }
    ∧ exec (.wrXcvTimeout v) s = .next { s with xcvTimeout := v, busRdata := 0, busErr := false }
    ∧ exec (.wrDispPeriod v) s = .next { s with dispPeriod := v, busRdata := 0, busErr := false }

/-- A W1C write of FLAGS or STATUS clears each bit written 1 and leaves every other bit; the views of STATUS and the cause
fields are not written (R245, R246). -/
def Obligations.W1cWritesClearTheBitsWritten : Prop :=
  ∀ (s : State) (v : Word),
    (∃ f, exec (.wrFlags v) s = .next { s with flags := f, busRdata := 0, busErr := false }
      ∧ ∀ b, b < 5 → f.getLsbD b = (s.flags.getLsbD b && !v.getLsbD b))
    ∧ (∃ k, exec (.wrStatus v) s = .next { s with sticky := k, busRdata := 0, busErr := false }
      ∧ ∀ b, 16 ≤ b → b < 20 → k.getLsbD (b - 16) = (s.sticky.getLsbD (b - 16) && !v.getLsbD b))

/-- A write of LEDGERk while FCC is IDLE replaces that word only; while FCC is busy it is refused with FCC_BUSY_WRITE and
nothing but the record of the error changes (R76, R247). -/
def Obligations.LedgerWritesOnlyWhileFccIdle : Prop :=
  ∀ (s : State) (v : Word) (k : Fin 15) (i : Instr),
    (k.val, i) ∈ [(0, Instr.wrLedger0 v), (1, .wrLedger1 v), (2, .wrLedger2 v), (3, .wrLedger3 v), (4, .wrLedger4 v),
      (5, .wrLedger5 v), (6, .wrLedger6 v), (7, .wrLedger7 v), (8, .wrLedger8 v), (9, .wrLedger9 v), (10, .wrLedger10 v),
      (11, .wrLedger11 v), (12, .wrLedger12 v), (13, .wrLedger13 v), (14, .wrLedger14 v)] →
    (s.fccState = .idle → ∃ l : Vector Word 15,
      exec i s = .next { s with ledger := l, busRdata := 0, busErr := false }
        ∧ ∀ j : Fin 15, l[j] = if j = k then v else s.ledger[j])
    ∧ (s.fccState ≠ .idle → exec i s =
        .next { s with sticky := s.sticky ||| 0b1000, busCause := 5, busRdata := 0, busErr := true })

/-! ## Commands -/

/-- The five commands: NOP has no effect; SET_SWCTX sets its flag; SESSION_CLOSE moves PRESENT to POLLING and has no effect
otherwise; COMMIT and LOAD issue their first flash request when FCC is IDLE and are refused with FCC_BUSY otherwise (R183,
R211, R214, R217, R251, R252). -/
def Obligations.CommandsHaveTheirEffect : Prop :=
  ∀ s : State,
    exec .nop s = .next s
    ∧ (∃ f, exec .setSwctx s = .next { s with flags := f }
        ∧ ∀ b, b < 5 → f.getLsbD b = (s.flags.getLsbD b || b == 2))
    ∧ (s.ctrl.getLsbD 1 = true → s.tagState = .present → exec .sessionClose s = .next { s with tagState := .polling })
    ∧ (s.ctrl.getLsbD 1 = false ∨ s.tagState ≠ .present → exec .sessionClose s = .next s)
    ∧ (s.fccState = .idle → exec .commit s =
        .next { s with fccState := .erasing, flOp := .erase, flIssue := true, flPend := true })
    ∧ (s.fccState = .idle → exec .load s =
        .next { s with fccState := .loading, flOp := .read, flIssue := true, flPend := true })
    ∧ (s.fccState ≠ .idle → exec .commit s = .next { s with sticky := s.sticky ||| 0b0100, cmdCause := 2 }
        ∧ exec .load s = .next { s with sticky := s.sticky ||| 0b0100, cmdCause := 2 })

/-- A CMD write runs the command its word is, and answers as an accepted write does (R248). -/
def Obligations.CmdWriteRunsTheCommand : Prop :=
  ∀ s : State,
    let answered := fun t : State => { t with busRdata := 0, busErr := false }
    (∃ t, exec .nop s = .next t ∧ exec (.wrCmd 0) s = .next (answered t))
    ∧ (∃ t, exec .sessionClose s = .next t ∧ exec (.wrCmd 1) s = .next (answered t))
    ∧ (∃ t, exec .commit s = .next t ∧ exec (.wrCmd 2) s = .next (answered t))
    ∧ (∃ t, exec .load s = .next t ∧ exec (.wrCmd 3) s = .next (answered t))
    ∧ (∃ t, exec .setSwctx s = .next t ∧ exec (.wrCmd 4) s = .next (answered t))

/-- A malformed command word runs no command and changes nothing but CMD_ERR and CMD_CAUSE: RESERVED_BITS when any of
bits [31:8] is set, else RESERVED_OP when OP is 0x05 or above; `bus_err` stays 0 (R249). -/
def Obligations.MalformedCommandOnlyRecordsItsCause : Prop :=
  ∀ (s : State) (v : Word),
    (256 ≤ v.toNat → exec (.wrCmd v) s =
      .next { s with sticky := s.sticky ||| 0b0100, cmdCause := 3, busRdata := 0, busErr := false })
    ∧ (5 ≤ v.toNat → v.toNat < 256 → exec (.wrCmd v) s =
      .next { s with sticky := s.sticky ||| 0b0100, cmdCause := 1, busRdata := 0, busErr := false })

/-- The host's commands in a whole cycle: SESSION_CLOSE in PRESENT, COMMIT and LOAD in IDLE with the request each puts on
the flash port (its op, its address and its length, R45, R79, R108), SET_SWCTX (R183, R211, R214, R252). Without a COMMIT or LOAD an idle FCC
stays IDLE and issues nothing (R210, R221). -/
def Obligations.CommandCycleTakesEffect : Prop :=
  ∀ s : State, (input s).rst = false → ∃ t, step s = .next t
    ∧ (hostCommand s = some .sessionClose → tagEn s = true → s.tagState = .present → t.tagState = .polling
        ∧ t.rdIssue = false ∧ sessionRegs t = sessionRegs s ∧ (flagSet s .tagReady = true → flagSet t .tagReady = true))
    ∧ (hostCommand s = some .commit → s.fccState = .idle → t.fccState = .erasing ∧ t.flIssue = true ∧ t.flOp = .erase
        ∧ t.flPend = true ∧ t.ledger = s.ledger ∧ irqHold t = true ∧ fccBusy t = true
        ∧ (outputs t).flReqValid = true ∧ (outputs t).flReqOp = 0 ∧ (outputs t).flReqLen = 0
        ∧ (outputs t).flReqAddr.toNat = s.params.flashSize - 4096)
    ∧ (hostCommand s = some .load → s.fccState = .idle → t.fccState = .loading ∧ t.flIssue = true ∧ t.flOp = .read
        ∧ t.flPend = true ∧ irqHold t = false ∧ fccBusy t = true
        ∧ (outputs t).flReqValid = true ∧ (outputs t).flReqOp = 2 ∧ (outputs t).flReqLen = 60
        ∧ (outputs t).flReqAddr.toNat = s.params.flashSize - 4096)
    ∧ (hostCommand s = some .commit ∨ hostCommand s = some .load → s.fccState ≠ .idle →
        t.sticky.getLsbD 2 = true ∧ t.cmdCause = 2)
    ∧ (hostCommand s = some .setSwctx → flagSet t .swctx = true)
    ∧ (s.fccState = .idle → hostCommand s ≠ some .commit → hostCommand s ≠ some .load →
        t.fccState = .idle ∧ t.flIssue = false ∧ t.flPend = s.flPend ∧ t.flOp = s.flOp ∧ t.flash = s.flash)

/-! ## Port requests -/

/-- The reader requests: what each issues when its operands hold (R175, R176, R178). The last three clauses, the negations
of those operands, are the model's choice (log entry 8, DESIGN CHOICE): the rules say when the block issues a request, and
`exec` of a request that is not due leaves the state unchanged. -/
def Obligations.ReaderRequestsAreIssuedInTheirState : Prop :=
  ∀ s : State,
    let deadline := if s.xcvTimeout = 0 then 1 else s.xcvTimeout
    (tagEn s = true → s.tagState = .polling → s.rdPend = false → pollDue s = true → exec .rPoll s =
      .next { s with rdOp := .poll, rdIssue := true, rdPend := true, xcvCount := deadline })
    ∧ (tagEn s = true → s.tagState = .polling → rdOutcome s = some .ok ∨ rdOutcome s = some .collision → exec .rAuth s =
      .next { s with
        tagState := .authenticating, rdOp := .auth, rdIssue := true, rdPend := true, xcvCount := deadline })
    ∧ (tagEn s = true → s.tagState = .authenticating → rdOutcome s = some .ok →
      1 ≤ (input s).rspUidlen.toNat → (input s).rspUidlen.toNat ≤ 10 → exec .rRead s =
      .next { s with
        tagState := .reading, uidSh := (input s).rspUid, uidlenSh := (input s).rspUidlen
        rdOp := .read, rdIssue := true, rdPend := true, xcvCount := deadline })
    ∧ (tagEn s = false ∨ s.tagState ≠ .polling ∨ s.rdPend = true ∨ pollDue s = false → exec .rPoll s = .next s)
    ∧ (tagEn s = false ∨ s.tagState ≠ .polling ∨ rdOutcome s = none ∨ rdOutcome s = some .timeout
      ∨ rdOutcome s = some .error → exec .rAuth s = .next s)
    ∧ (tagEn s = false ∨ s.tagState ≠ .authenticating ∨ rdOutcome s ≠ some .ok ∨ (input s).rspUidlen.toNat = 0
      ∨ 10 < (input s).rspUidlen.toNat → exec .rRead s = .next s)

/-- The flash requests: what each issues when its operands hold (R211, R212, R214). The last two clauses, the negations of
those operands, are the model's choice (log entry 8, DESIGN CHOICE): the rules say when the block issues a request, and
`exec` of a request that is not due leaves the state unchanged. -/
def Obligations.FlashRequestsAreIssuedInTheirState : Prop :=
  ∀ s : State,
    (s.fccState = .idle → exec .flErase s =
      .next { s with fccState := .erasing, flOp := .erase, flIssue := true, flPend := true })
    ∧ (s.fccState = .idle → exec .flRead s =
      .next { s with fccState := .loading, flOp := .read, flIssue := true, flPend := true })
    ∧ (s.fccState = .erasing → s.flPend = true → s.flIssue = false → (input s).flAck = true → exec .flProgram s =
      .next { s with fccState := .programming, flOp := .program, flIssue := true, flPend := true })
    ∧ (s.fccState ≠ .idle → exec .flErase s = .next s ∧ exec .flRead s = .next s)
    ∧ (s.fccState ≠ .erasing ∨ flAcked s = false → exec .flProgram s = .next s)

/-! ## KPD -/

/-- KP disable (R131): KEY and KEY_READY keep their values, and the keypad is column-sensing from the next cycle. -/
def Obligations.DisabledKeypadIsHeld : Prop :=
  ∀ s : State, (input s).rst = false → kpEn s = false → ∃ t, step s = .next t
    ∧ t.kpState = .disabled ∧ t.dbCount = 0 ∧ keyRegs t = keyRegs s
    ∧ flagSet t .keyReady = (flagSet s .keyReady && !hostClearsFlag s .keyReady)
    ∧ (t.sticky.getLsbD 0 = true → s.sticky.getLsbD 0 = true) ∧ (outputs t).senseMode = false

/-- KP enable (R132): COLS_ARMED, no capture in this cycle, and a column already asserted gives no edge in the next. -/
def Obligations.EnabledKeypadArmsItsColumns : Prop :=
  ∀ s : State, (input s).rst = false → kpEn s = true → s.kpState = .disabled → ∃ t, step s = .next t
    ∧ t.kpState = .colsArmed ∧ keyRegs t = keyRegs s ∧ t.dbCount = s.dbCount
    ∧ ((input t).kpCol &&& ~~~(input s).kpCol = 0 → colEdge t = false)

/-- Valid capture (R134). -/
def Obligations.ValidColumnEdgeCapturesTheKey : Prop :=
  ∀ (s : State) (code : BitVec 4), (input s).rst = false → kpEn s = true → s.kpState = .colsArmed →
    (input s).kpCol &&& ~~~s.colPrev ≠ 0 → flagSet s .keyReady = false →
    keyDecode s.params (input s).kpRow (input s).kpCol = some code → ∃ t, step s = .next t
    ∧ t.keyCode = code ∧ t.keyRow = (input s).kpRow ∧ t.keyCol = (input s).kpCol ∧ t.kpState = .rowsArmed
    ∧ t.dbCount = (if s.dbPeriod = 0 then 1 else s.dbPeriod) ∧ flagSet t .keyReady = false
    ∧ (t.sticky.getLsbD 0 = true → s.sticky.getLsbD 0 = true) ∧ (outputs t).senseMode = true

/-- Key decode (R111): a code exactly when one row bit and one column bit are set, and then KEYMAP's at their indices. -/
def Obligations.KeyDecodeNeedsOneRowAndOneColumn : Prop :=
  ∀ (p : Params) (rm cm : BitVec 4),
    (∀ r c : Fin 4, rm = 1#4 <<< r.val → cm = 1#4 <<< c.val →
      keyDecode p rm cm = some (p.keymap[4 * r.val + c.val]))
    ∧ ((∀ r : Fin 4, rm ≠ 1#4 <<< r.val) ∨ (∀ c : Fin 4, cm ≠ 1#4 <<< c.val) → keyDecode p rm cm = none)

/-- COLS_ARMED without a capture: no column rises (R130, R133), an invalid capture (R135), and a capture while a key is pending
(R136). KPD stays in COLS_ARMED and writes nothing, but for KEY_OVR in the third, which a host clear of KEY_READY in the same
cycle does not prevent. -/
def Obligations.UnusableColumnEdgeIsDropped : Prop :=
  ∀ s : State, (input s).rst = false → kpEn s = true → s.kpState = .colsArmed →
    let rise := (input s).kpCol &&& ~~~s.colPrev
    (rise = 0 ∨ flagSet s .keyReady = true ∨ keyDecode s.params (input s).kpRow (input s).kpCol = none) →
    ∃ t, step s = .next t
    ∧ keyRegs t = keyRegs s ∧ t.kpState = .colsArmed ∧ t.dbCount = s.dbCount
    ∧ flagSet t .keyReady = (flagSet s .keyReady && !hostClearsFlag s .keyReady)
    ∧ (outputs t).senseMode = false
    ∧ (rise ≠ 0 → flagSet s .keyReady = true → t.sticky.getLsbD 0 = true)
    ∧ (rise = 0 ∨ flagSet s .keyReady = false → t.sticky.getLsbD 0 = true → s.sticky.getLsbD 0 = true)

/-- The debounce timer while ROWS_ARMED: a row change restarts it (R137), an expiry with rows asserted restarts it (R138),
any other tick counts it down and a cycle without a tick holds it (R140); KEY and the state stay. -/
def Obligations.DebounceTimerRestartsAndCounts : Prop :=
  ∀ s : State, (input s).rst = false → kpEn s = true → s.kpState = .rowsArmed → keyFinalizes s = false → s.dbCount ≠ 0 →
    ∃ t, step s = .next t ∧ t.kpState = .rowsArmed ∧ keyRegs t = keyRegs s
    ∧ flagSet t .keyReady = (flagSet s .keyReady && !hostClearsFlag s .keyReady)
    ∧ (t.sticky.getLsbD 0 = true → s.sticky.getLsbD 0 = true)
    ∧ t.dbCount =
      if (input s).kpRow ≠ s.rowPrev then (if s.dbPeriod = 0 then 1 else s.dbPeriod)
      else if tick s = true ∧ s.dbCount = 1 then (if s.dbPeriod = 0 then 1 else s.dbPeriod)
      else if tick s = true then s.dbCount - 1 else s.dbCount

/-- Finalize (R139): at an expiry with the rows clear the debounce cycle is closed and KEY_READY set, whatever the host
writes in the cycle. -/
def Obligations.ClearRowsAtExpiryFinalizeTheKey : Prop :=
  ∀ s : State, (input s).rst = false → kpEn s = true → s.kpState = .rowsArmed → (input s).kpRow = s.rowPrev →
    tick s = true → s.dbCount = 1 → (input s).kpRow = 0 → ∃ t, step s = .next t
    ∧ t.dbCount = 0 ∧ t.kpState = .colsArmed ∧ flagSet t .keyReady = true ∧ keyRegs t = keyRegs s
    ∧ (outputs t).senseMode = false

/-- Column activity while ROWS_ARMED has no effect (R141): the cycle is the same for any columns, but for the sample. -/
def Obligations.ColumnsAreIgnoredWhileRowsArmed : Prop :=
  ∀ (s t : State) (col : BitVec 4), (input s).rst = false → kpEn s = true → s.kpState = .rowsArmed → step s = .next t →
    step (withInput (fun i => { i with kpCol := col }) s) = .next { t with colPrev := col }

/-- A stuck key (R142): as long as some row is asserted at every tick, without reset and without a CTRL write, KPD stays in
ROWS_ARMED and never raises KEY_READY, whatever the rows do between ticks. -/
def Obligations.StuckKeyNeverFinalizes : Prop :=
  ∀ (n : Nat) (s t : State), kpEn s = true → s.kpState = .rowsArmed → flagSet s .keyReady = false →
    (∀ m, m < n → ∀ u, Host.Core.run Sys2Proof.core m s = .next u →
      (input u).rst = false ∧ (tick u = true → (input u).kpRow ≠ 0) ∧ hostWritesCtrl u = false) →
    Host.Core.run Sys2Proof.core n s = .next t →
    t.kpState = .rowsArmed ∧ flagSet t .keyReady = false ∧ keyRegs t = keyRegs s

/-- Key-ready latency with TICK_CYCLES = 1 (R144): with the rows clear and unchanged from now on, the key is finalized in
the DB_COUNT-th cycle, and not before. -/
def Obligations.KeyReadyComesAtTheLastTick : Prop :=
  ∀ (n : Nat) (s t : State), s.params.tickCycles = 1 → s.presc = 0 → kpEn s = true → s.kpState = .rowsArmed →
    flagSet s .keyReady = false → s.rowPrev = 0 → n ≤ s.dbCount.toNat → s.dbCount ≠ 0 →
    (∀ m, m < n → ∀ u, Host.Core.run Sys2Proof.core m s = .next u →
      (input u).rst = false ∧ (input u).kpRow = 0 ∧ hostWritesCtrl u = false) →
    Host.Core.run Sys2Proof.core n s = .next t →
    (n < s.dbCount.toNat → t.kpState = .rowsArmed ∧ flagSet t .keyReady = false)
    ∧ (n = s.dbCount.toNat → t.kpState = .colsArmed ∧ flagSet t .keyReady = true)

/-- `sense_mode` is 1 exactly in the cycles that start in ROWS_ARMED; it rises after a valid capture and falls after a
finalize or a disable, and at no other time (R145). -/
def Obligations.SenseModeFollowsTheDebounceCycle : Prop :=
  ∀ (s t : State), (input s).rst = false → step s = .next t →
    ((outputs s).senseMode = true ↔ s.kpState = .rowsArmed)
    ∧ ((outputs t).senseMode = true ↔ keyCaptured s = true ∨
      ((outputs s).senseMode = true ∧ keyFinalizes s = false ∧ kpEn s = true))

/-- KEY does not change while KEY_READY is set, and is written only by a valid capture (R34). -/
def Obligations.KeyIsWrittenOnlyByAValidCapture : Prop :=
  ∀ (s t : State), (input s).rst = false → step s = .next t →
    (keyCaptured s = false → keyRegs t = keyRegs s) ∧ (flagSet s .keyReady = true → keyRegs t = keyRegs s)

/-! ## TAG -/

/-- TAG disable (R171): an outstanding request is aborted; the session registers and TAG_READY keep their values. -/
def Obligations.DisabledTagIsIdle : Prop :=
  ∀ s : State, (input s).rst = false → tagEn s = false → ∃ t, step s = .next t
    ∧ t.tagState = .idle ∧ t.rdPend = false ∧ t.pollCount = 0 ∧ t.xcvCount = 0 ∧ t.rdIssue = false
    ∧ t.rdAbortQ = s.rdPend ∧ (outputs t).rdAbort = s.rdPend
    ∧ sessionRegs t = sessionRegs s ∧ t.tagCause = s.tagCause
    ∧ (t.sticky.getLsbD 1 = true → s.sticky.getLsbD 1 = true)
    ∧ flagSet t .tagReady = (flagSet s .tagReady && !hostClearsFlag s .tagReady)

/-- The poll triggers: the periodic one and its counter (R172), the edge one (R173); TAG enable (R174); and that TAG waits: a
cycle without a trigger and without an outcome keeps the TAG state and the request (R170). -/
def Obligations.PollTriggerFollowsTheMode : Prop :=
  ∀ s : State, (input s).rst = false → tagEn s = true → ∃ t, step s = .next t
    ∧ t.pollCount =
      (if tagMode s = true then 0
       else if s.pollCount = 0 then (if s.pollPeriod = 0 then 1 else s.pollPeriod)
       else if tick s = true then
        (if s.pollCount = 1 then (if s.pollPeriod = 0 then 1 else s.pollPeriod) else s.pollCount - 1)
       else s.pollCount)
    ∧ (s.tagState = .polling → s.rdPend = false → (t.rdIssue = true ↔
        if tagMode s = true then (input s).tagPin = true ∧ s.pinPrev = false
        else tick s = true ∧ s.pollCount = 1))
    ∧ (s.tagState = .idle → t.tagState = .polling ∧ t.rdIssue = false)
    ∧ (rdOutcome s = none → s.tagState = .polling ∨ s.tagState = .authenticating ∨ s.tagState = .reading →
        t.tagState = s.tagState ∧ t.tagCause = s.tagCause ∧ sessionRegs t = sessionRegs s
        ∧ (t.rdIssue = false → t.rdOp = s.rdOp ∧ t.rdPend = s.rdPend ∧ t.uidSh = s.uidSh ∧ t.uidlenSh = s.uidlenSh)
        ∧ (s.tagState ≠ .polling → t.rdIssue = false)
        ∧ (t.rdIssue = false → s.rdPend = false → t.xcvCount = s.xcvCount))
    ∧ (s.rdPend = false → (outputs t).rdAbort = false)

/-- Issue POLL (R175). -/
def Obligations.TriggerIssuesThePoll : Prop :=
  ∀ s : State, (input s).rst = false → tagEn s = true → s.tagState = .polling → s.rdPend = false → pollDue s = true →
    ∃ t, step s = .next t ∧ t.tagState = .polling ∧ t.rdOp = .poll ∧ t.rdIssue = true ∧ t.rdPend = true
    ∧ t.xcvCount = (if s.xcvTimeout = 0 then 1 else s.xcvTimeout)
    ∧ (outputs t).rdReqValid = true ∧ (outputs t).rdReqOp = 0

/-- POLL answered (R176) and POLL unanswered (R177). -/
def Obligations.PollResponseStartsAuthentication : Prop :=
  ∀ (s : State) (st : RdStatus), (input s).rst = false → tagEn s = true → s.tagState = .polling → rdOutcome s = some st →
    ∃ t, step s = .next t ∧ (st = .ok ∨ st = .collision →
        t.tagState = .authenticating ∧ t.rdOp = .auth ∧ t.rdIssue = true ∧ t.rdPend = true
        ∧ t.xcvCount = (if s.xcvTimeout = 0 then 1 else s.xcvTimeout) ∧ (outputs t).rdReqOp = 1
        ∧ (outputs t).rdReqBlock = s.params.tagBlock ∧ (outputs t).rdReqKey = s.params.authKey)
    ∧ (st = .timeout ∨ st = .error →
        t.tagState = .polling ∧ t.rdPend = false ∧ t.xcvCount = 0 ∧ t.rdIssue = false)
    ∧ sessionRegs t = sessionRegs s ∧ t.tagCause = s.tagCause ∧ (t.sticky.getLsbD 1 = true → s.sticky.getLsbD 1 = true)
    ∧ flagSet t .tagReady = (flagSet s .tagReady && !hostClearsFlag s .tagReady)

/-- AUTH succeeded (R178) and AUTH failed (R179). -/
def Obligations.AuthResponseStartsTheReadOrAborts : Prop :=
  ∀ (s : State) (st : RdStatus), (input s).rst = false → tagEn s = true → s.tagState = .authenticating →
    rdOutcome s = some st →
    ∃ t, step s = .next t ∧ sessionRegs t = sessionRegs s
    ∧ flagSet t .tagReady = (flagSet s .tagReady && !hostClearsFlag s .tagReady) ∧
    let legal := 1 ≤ (input s).rspUidlen.toNat ∧ (input s).rspUidlen.toNat ≤ 10
    if st = .ok ∧ legal then
      t.uidSh = (input s).rspUid ∧ t.uidlenSh = (input s).rspUidlen ∧ t.tagState = .reading ∧ t.rdOp = .read
        ∧ t.rdIssue = true ∧ t.rdPend = true ∧ t.xcvCount = (if s.xcvTimeout = 0 then 1 else s.xcvTimeout)
        ∧ (outputs t).rdReqOp = 2 ∧ t.tagCause = s.tagCause ∧ (t.sticky.getLsbD 1 = true → s.sticky.getLsbD 1 = true)
    else
      t.tagState = .polling ∧ t.rdPend = false ∧ t.rdIssue = false ∧ t.sticky.getLsbD 1 = true
        ∧ t.tagCause = if st = .timeout then 2 else 1

/-- READ succeeded (R180): all session registers and TAG_READY in one cycle, byte by byte. -/
def Obligations.ReadResponsePublishesTheSession : Prop :=
  ∀ s : State, (input s).rst = false → tagEn s = true → s.tagState = .reading → rdOutcome s = some .ok →
    ∃ t, step s = .next t ∧ t.tagState = .present ∧ t.rdPend = false ∧ t.rdIssue = false
    ∧ t.tagCause = s.tagCause ∧ (t.sticky.getLsbD 1 = true → s.sticky.getLsbD 1 = true)
    ∧ flagSet t .tagReady = true ∧ t.tagUidlen = s.uidlenSh
    ∧ (∀ i, i < 10 → (tagUid t).extractLsb' (8 * i) 8 =
        if i < s.uidlenSh.toNat then s.uidSh.extractLsb' (8 * i) 8 else 0#8)
    ∧ (∀ i, i < 16 → ([t.tagData0, t.tagData1, t.tagData2, t.tagData3][i / 4]?.map
        fun w => w.extractLsb' (8 * (i % 4)) 8) = some ((input s).rspData.extractLsb' (8 * i) 8))

/-- READ failed (R181): TagError, back to POLLING, the previous session's registers kept. -/
def Obligations.FailedReadAbortsToPolling : Prop :=
  ∀ (s : State) (st : RdStatus), (input s).rst = false → tagEn s = true → s.tagState = .reading → rdOutcome s = some st →
    st ≠ .ok → ∃ t, step s = .next t ∧ t.tagState = .polling ∧ t.rdPend = false ∧ t.rdIssue = false
    ∧ t.sticky.getLsbD 1 = true ∧ t.tagCause = (if st = .timeout then 4 else 3)
    ∧ sessionRegs t = sessionRegs s ∧ t.uidSh = s.uidSh
    ∧ flagSet t .tagReady = (flagSet s .tagReady && !hostClearsFlag s .tagReady)

/-- The transceive deadline (R182) and which responses are accepted, with the codes of `rd_rsp_status` (R107): the outcome
of a cycle, the abort on the port (R45), and the countdown. A response wins over the deadline and gives no abort. That a tick in
the request cycle does not count is R182's, against R296's general sentence (log entry 12, DEDUCED). -/
def Obligations.DeadlineEndsTheTransceive : Prop :=
  ∀ s : State, (input s).rst = false → tagEn s = true → s.rdPend = true →
    (s.rdIssue = true → rdOutcome s = none)
    ∧ (s.rdIssue = false → (input s).rspValid = true →
        ((input s).rspStatus = 0 → rdOutcome s = some .ok) ∧ ((input s).rspStatus = 1 → rdOutcome s = some .collision)
        ∧ ((input s).rspStatus = 2 → rdOutcome s = some .timeout) ∧ ((input s).rspStatus = 3 → rdOutcome s = some .error)
        ∧ ∃ t, step s = .next t ∧ t.rdAbortQ = false ∧ (outputs t).rdAbort = false)
    ∧ (s.rdIssue = false → (input s).rspValid = false → tick s = true → s.xcvCount = 1 → rdOutcome s = some .timeout
        ∧ ∃ t, step s = .next t ∧ t.rdAbortQ = true ∧ (outputs t).rdAbort = true ∧ t.rdPend = false ∧ t.xcvCount = 0)
    ∧ (rdOutcome s = none → s.tagState ≠ .idle → ∃ t, step s = .next t ∧ t.rdPend = true ∧ t.rdIssue = false
        ∧ t.rdAbortQ = false ∧ (outputs t).rdAbort = false ∧ t.rdOp = s.rdOp
        ∧ (s.tagState ≠ .present → t.tagState = s.tagState)
        ∧ t.xcvCount = if s.rdIssue = false ∧ tick s = true then s.xcvCount - 1 else s.xcvCount)

/-- Triggers are discarded while a session is open or a transceive is in progress (R184, R185), so the cycle is the same
with and without an edge of the presence pin, but for the sample. -/
def Obligations.TriggersAreDiscardedOutsidePolling : Prop :=
  ∀ (s t : State) (pin : Bool), (input s).rst = false → step s = .next t →
    (s.tagState ≠ .polling ∨ s.rdPend = true) →
    step (withInput (fun i => { i with tagPin := pin }) s) = .next { t with pinPrev := pin }
    ∧ (t.rdIssue = true → t.rdOp ≠ .poll)

/-- At most one tag session (R187): from PRESENT the block issues no request and the session registers do not change; it
leaves PRESENT only by SESSION_CLOSE, a disable or reset. -/
def Obligations.OpenSessionSuspendsPolling : Prop :=
  ∀ (s t : State), (input s).rst = false → step s = .next t → s.tagState = .present →
    t.rdIssue = false ∧ sessionRegs t = sessionRegs s
    ∧ (t.tagState ≠ .present → tagEn s = false ∨ hostCommand s = some .sessionClose)

/-- The session registers are written only at entry to PRESENT (R36, R37, R332), and PRESENT is entered only by publishing them
(R180, R187). The UID held for them is written only by an AUTH that starts a READ (R178). -/
def Obligations.SessionRegistersChangeOnlyByPublishing : Prop :=
  ∀ (s t : State), (input s).rst = false → step s = .next t →
    (tagPublishes s = false → sessionRegs t = sessionRegs s) ∧ (tagPublishes s = true → t.tagState = .present)
    ∧ (t.tagState = .present → s.tagState = .present ∨ tagPublishes s = true)
    ∧ (readStarts s = false → t.uidSh = s.uidSh ∧ t.uidlenSh = s.uidlenSh)

/-! ## FCC and the flash array -/

/-- Erase acknowledged (R212): FL_PROGRAM of 256 bytes at the sector base FLASH_SIZE - 4096 (R45, R79, R108) is on the port
in the next cycle, with the page image of R112 as its data: byte 4k+b is byte b of LEDGER word k and bytes 60..255 are
0xFF. That byte i of the image is in bits [8i+7:8i] of `fl_req_wdata` is log entry 6 (DEDUCED). Every byte of the sector
reads as erased (R81b) and every other byte as before. -/
def Obligations.EraseAcknowledgedStartsTheProgram : Prop :=
  ∀ s : State, (input s).rst = false → s.fccState = .erasing → s.flPend = true → s.flIssue = false →
    (input s).flAck = true → ∃ t, step s = .next t
    ∧ t.fccState = .programming ∧ t.flOp = .program ∧ t.flIssue = true ∧ t.flPend = true ∧ t.ledger = s.ledger
    ∧ (outputs t).flReqValid = true ∧ (outputs t).flReqOp = 1 ∧ (outputs t).flReqLen = 256
    ∧ (outputs t).flReqAddr.toNat = s.params.flashSize - 4096
    ∧ (∀ (k : Fin 15) (b : Nat), b < 4 →
        (outputs t).flReqWdata.extractLsb' (8 * (4 * k.val + b)) 8 = (s.ledger[k]).extractLsb' (8 * b) 8)
    ∧ (∀ i, 60 ≤ i → i < 256 → (outputs t).flReqWdata.extractLsb' (8 * i) 8 = 0xFF)
    ∧ ∀ a : Nat, flashRead t.flash a =
        if s.params.flashSize - 4096 ≤ a ∧ a < s.params.flashSize then 0xFF else flashRead s.flash a

/-- Program acknowledged (R213): the commit is done, LEDGER is unchanged, and the page holds LEDGER in little-endian
row-major order with 0xFF in bytes 60..255 (R81c, R112); every byte outside the page reads as before. R81c speaks of an erased
page: that the image replaces the bytes of any other page is log entry 4 (DESIGN CHOICE). -/
def Obligations.ProgramAcknowledgedEndsTheCommit : Prop :=
  ∀ s : State, Inv s → (input s).rst = false → s.fccState = .programming → s.flIssue = false →
    (input s).flAck = true → ∃ t, step s = .next t
    ∧ t.fccState = .idle ∧ t.flPend = false ∧ t.flIssue = false ∧ flagSet t .fccDone = true ∧ t.ledger = s.ledger
    ∧ (∀ (k : Fin 15) (b : Nat), b < 4 → flashRead t.flash (s.params.flashSize - 4096 + 4 * k.val + b) =
        (s.ledger[k]).extractLsb' (8 * b) 8)
    ∧ (∀ i, 60 ≤ i → i < 256 → flashRead t.flash (s.params.flashSize - 4096 + i) = 0xFF)
    ∧ (∀ a : Nat, a < s.params.flashSize - 4096 ∨ s.params.flashSize - 4096 + 256 ≤ a →
        flashRead t.flash a = flashRead s.flash a)

/-- Read acknowledged (R215): word k of LEDGER is the bytes 4k..4k+3 of `fl_rdata`, least significant first; the flash array
is unchanged. -/
def Obligations.ReadAcknowledgedLoadsTheLedger : Prop :=
  ∀ s : State, (input s).rst = false → s.fccState = .loading → s.flPend = true → s.flIssue = false →
    (input s).flAck = true → ∃ t, step s = .next t
    ∧ t.fccState = .idle ∧ t.flPend = false ∧ t.flIssue = false ∧ flagSet t .fccDone = true ∧ t.flash = s.flash
    ∧ ∀ (k : Fin 15) (b : Nat), b < 4 →
        (t.ledger[k]).extractLsb' (8 * b) 8 = (input s).flRdata.extractLsb' (8 * (4 * k.val + b)) 8

/-- Without an accepted acknowledgement, so also when one comes in the request cycle and is ignored (R109, R336), FCC stays
busy, issues nothing and LEDGER is unchanged, for ever if none comes (R218); during a commit `irq` stays 0 (R216). That the flash array, too, is unchanged while an erase or program is unacknowledged
is the model's choice of the moment of the change (log entry 4, DESIGN CHOICE). -/
def Obligations.UnacknowledgedFlashKeepsFccBusy : Prop :=
  ∀ (n : Nat) (s t : State), s.fccState ≠ .idle →
    (∀ m, m < n → ∀ u, Host.Core.run Sys2Proof.core m s = .next u →
      (input u).rst = false ∧ ((input u).flAck = false ∨ u.flIssue = true ∨ u.flPend = false)) →
    Host.Core.run Sys2Proof.core n s = .next t →
    t.fccState = s.fccState ∧ t.flPend = s.flPend ∧ t.flOp = s.flOp ∧ t.ledger = s.ledger ∧ t.flash = s.flash
    ∧ (irqHold s = true → irq t = false) ∧ (n ≠ 0 → t.flIssue = false)

/-- FL_ERASE is issued only by an accepted COMMIT, FL_PROGRAM only at the erase's acknowledgement, FL_READ only by an
accepted LOAD (R221), and a request is on the port for exactly one cycle (R14). -/
def Obligations.FlashRequestsHaveOneCause : Prop :=
  ∀ (s t : State), Inv s → (input s).rst = false → step s = .next t →
    (t.flIssue = true → s.flIssue = false
      ∧ (t.flOp = .erase → s.fccState = .idle ∧ hostCommand s = some .commit)
      ∧ (t.flOp = .program → s.fccState = .erasing ∧ flAcked s = true)
      ∧ (t.flOp = .read → s.fccState = .idle ∧ hostCommand s = some .load))
    ∧ (t.rdIssue = true → s.rdIssue = false)

/-- Only an erase or a program changes the flash array (R71); LEDGER changes only by an accepted host write or a LOAD's
acknowledgement (R51, R76). That the array changes in the cycle of the acknowledgement and not before, while an erase or
program is under way, is the model's choice (log entry 4, DESIGN CHOICE). -/
def Obligations.FlashAndLedgerHaveOneWriter : Prop :=
  ∀ (s t : State), (input s).rst = false → step s = .next t →
    ((s.fccState ≠ .erasing ∧ s.fccState ≠ .programming) ∨ flAcked s = false → t.flash = s.flash)
    ∧ (s.fccState ≠ .idle → s.fccState ≠ .loading ∨ flAcked s = false → t.ledger = s.ledger)
    ∧ (s.fccState = .idle →
        ¬ ((input s).busValid = true ∧ (input s).busWe = true ∧ (input s).busSize = 2 ∧ (input s).busAddr.toNat % 4 = 0
          ∧ 0x60 ≤ (input s).busAddr.toNat ∧ (input s).busAddr.toNat < 0x9C) → t.ledger = s.ledger)

/-- Round trip (R220): after a COMMIT completes with LEDGER = W, a LOAD that completes later under the flash port contract,
with no reset and no other COMMIT in between, leaves LEDGER = W. The premise admits a page that is not erased when the program
is acknowledged; R81c and R220 do not speak of one, and there the statement rests on log entry 4 (DESIGN CHOICE). -/
def Obligations.CommitThenLoadRestoresTheLedger : Prop :=
  ∀ (n : Nat) (s t u w : State), Inv s → (input s).rst = false → s.fccState = .programming → flAcked s = true →
    step s = .next t →
    (∀ m, m < n → ∀ v, Host.Core.run Sys2Proof.core m t = .next v →
      (input v).rst = false ∧ hostCommand v ≠ some .commit) →
    Host.Core.run Sys2Proof.core n t = .next u →
    (input u).rst = false → u.fccState = .loading → flAcked u = true → flashContract u → step u = .next w →
    w.ledger = s.ledger ∧ flagSet w .fccDone = true

/-! ## Flags, interrupt, timers -/

/-- A flag after a cycle (R27, R51, R245): set if its event happens in the cycle, whatever the host writes; else cleared by
a host write of 1; else kept. KEY_READY, TAG_READY, SWCTX, INV_TICK and FCC_DONE are bits 0 to 4 of FLAGS (R27). -/
def Obligations.FlagsAreSetByTheirEventsOnly : Prop :=
  ∀ (s t : State), (input s).rst = false → step s = .next t →
    let kept := fun b : Nat => s.flags.getLsbD b = true ∧ ∀ v, fetch s = .run (.wrFlags v) → v.getLsbD b = false
    (t.flags.getLsbD 0 = true ↔ keyFinalizes s = true ∨ kept 0)
    ∧ (t.flags.getLsbD 1 = true ↔ tagPublishes s = true ∨ kept 1)
    ∧ (t.flags.getLsbD 2 = true ↔ hostCommand s = some .setSwctx ∨ kept 2)
    ∧ (t.flags.getLsbD 3 = true ↔ displayExpires s = true ∨ kept 3)
    ∧ (t.flags.getLsbD 4 = true ↔ fccCompletes s = true ∨ kept 4)
    ∧ ∀ f : Flag, flagSet t f = (flagEvent s f || (flagSet s f && !hostClearsFlag s f))

/-- The interrupt output (R288) with the commit hold (R216): bit by bit over the sources. -/
def Obligations.IrqIsTheMaskedOrOutsideACommit : Prop :=
  ∀ s : State,
    ((outputs s).irq = true ↔ (∃ i, i < 5 ∧ s.flags.getLsbD i = true ∧ s.irqEn.getLsbD i = true)
      ∧ s.fccState ≠ .erasing ∧ s.fccState ≠ .programming)

/-- The sticky error bits and the cause fields (R26, R35, R246, R280): a bit is kept until the host writes it as 1; each bit is
set, and its cause field written, only by an error of its class: KEY_OVR by a column edge while a key is pending (R136), TAG_ERR
by a failed AUTH or READ (R179, R181), CMD_ERR by a malformed or refused command (R217, R249), BUS_ERR by a refused access. -/
def Obligations.StickyBitsAreKeptUntilCleared : Prop :=
  ∀ (s t : State), (input s).rst = false → step s = .next t →
    let keyOverrun := kpEn s = true ∧ s.kpState = .colsArmed ∧ (input s).kpCol &&& ~~~s.colPrev ≠ 0
      ∧ flagSet s .keyReady = true
    let tagError := tagEn s = true ∧ ∃ st, rdOutcome s = some st ∧
      (s.tagState = .authenticating ∧ ¬ (st = .ok ∧ 1 ≤ (input s).rspUidlen.toNat ∧ (input s).rspUidlen.toNat ≤ 10)
        ∨ s.tagState = .reading ∧ st ≠ .ok)
    let cmdError := ∃ v : Word, fetch s = .run (.wrCmd v) ∧ (5 ≤ v.toNat ∨ (v = 2 ∨ v = 3) ∧ s.fccState ≠ .idle)
    let busError := (busResponse s).2 = true
    (∀ b, b < 4 → s.sticky.getLsbD b = true → (∀ v, fetch s = .run (.wrStatus v) → v.getLsbD (16 + b) = false) →
      t.sticky.getLsbD b = true)
    ∧ (¬ keyOverrun → t.sticky.getLsbD 0 = true → s.sticky.getLsbD 0 = true)
    ∧ (¬ tagError → (t.sticky.getLsbD 1 = true → s.sticky.getLsbD 1 = true) ∧ t.tagCause = s.tagCause)
    ∧ (¬ cmdError → (t.sticky.getLsbD 2 = true → s.sticky.getLsbD 2 = true) ∧ t.cmdCause = s.cmdCause)
    ∧ (¬ busError → (t.sticky.getLsbD 3 = true → s.sticky.getLsbD 3 = true) ∧ t.busCause = s.busCause)

/-- The display tick timer (R298) and the prescaler (R295). -/
def Obligations.DisplayTimerTicksPeriodically : Prop :=
  ∀ s : State, (input s).rst = false → ∃ t, step s = .next t
    ∧ (tick s = true ↔ s.presc + 1 = s.params.tickCycles)
    ∧ t.presc = (if s.presc + 1 = s.params.tickCycles then 0 else s.presc + 1)
    ∧ t.dispCount =
      (if dispEn s = false then 0
       else if s.dispCount = 0 then (if s.dispPeriod = 0 then 1 else s.dispPeriod)
       else if s.presc + 1 = s.params.tickCycles then
        (if s.dispCount = 1 then (if s.dispPeriod = 0 then 1 else s.dispPeriod) else s.dispCount - 1)
       else s.dispCount)
    ∧ (flagSet t .invTick = true ↔ (dispEn s = true ∧ s.presc + 1 = s.params.tickCycles ∧ s.dispCount = 1)
        ∨ (flagSet s .invTick = true ∧ hostClearsFlag s .invTick = false))

/-! ## Reset -/

/-- ResetState (R321), as the host reads it after reset. -/
def Obligations.ResetStateHoldsTheValues : Prop :=
  let s := State.reset
  (ctrlWord s = 0 ∧ statusWord s = 0 ∧ flagsWord s = 0 ∧ irqEnWord s = 0 ∧ keyWord s = 0 ∧ errWord s = 0)
  ∧ (s.dbPeriod = 0x64 ∧ s.pollPeriod = 0x3E8 ∧ s.xcvTimeout = 0x24 ∧ s.dispPeriod = 0)
  ∧ (s.dbCount = 0 ∧ s.pollCount = 0 ∧ s.xcvCount = 0 ∧ s.dispCount = 0)
  ∧ (sessionRegs s = 0 ∧ ∀ k : Fin 15, s.ledger[k] = 0)
  ∧ (s.kpState = .disabled ∧ s.colPrev = 0 ∧ s.rowPrev = 0)
  ∧ (s.tagState = .idle ∧ s.rdPend = false ∧ s.rdIssue = false ∧ rdOpCode s.rdOp = 0 ∧ s.rdAbortQ = false ∧ s.uidSh = 0
      ∧ s.uidlenSh = 0 ∧ s.pinPrev = false)
  ∧ (s.fccState = .idle ∧ s.flIssue = false ∧ flOpCode s.flOp = 0 ∧ s.flPend = false ∧ s.presc = 0)
  ∧ exec .rdId s = .next { s with busRdata := 0x494D5207, busErr := false }

/-- Reset (R320, R322 to R324): a cycle with `rst` gives ResetState whatever the state and the inputs, with the bus
answering 0, 0; the flash array is kept, but for the bytes of the ledger sector when a commit was running; in the next cycle
`sense_mode`, `irq`, `rd_req_valid`, `rd_abort` and `fl_req_valid` are 0. -/
def Obligations.ResetReturnsResetState : Prop :=
  ∀ s : State, (input s).rst = true → ∃ t, step s = .next t ∧ busResponse s = (0, false)
    ∧ t = { State.reset with
        flash := t.flash, freeIdx := t.freeIdx, inputs := s.inputs.tail, params := s.params }
    ∧ (irqHold s = false → t.flash = s.flash)
    ∧ (∀ a : Nat, a < s.params.flashSize - 4096 ∨ s.params.flashSize ≤ a → flashRead t.flash a = flashRead s.flash a)
    ∧ (outputs t).senseMode = false ∧ (outputs t).irq = false ∧ (outputs t).rdReqValid = false
    ∧ (outputs t).rdAbort = false ∧ (outputs t).flReqValid = false

/-! ## The invariant -/

/-- The invariant holds in ResetState. -/
def Obligations.InvariantHoldsAtReset : Prop := Inv State.reset

/-- Every cycle keeps the invariant, whatever the host, the reader, the flash, the key matrix and the presence pin do. -/
def Obligations.EveryCycleKeepsTheInvariant : Prop := ∀ (s t : State), Inv s → step s = .next t → Inv t
end

