-- ==== Sys2Proof/Laws/State.lean ====
section
/-! SUPPORT. For each update of the state, one lemma per field: what the field holds after it (true by `rfl`), so that no
later proof unfolds a record update. -/

namespace Sys2Proof.Machine

@[simp] theorem respondRead_ctrl (d : Word) (s : State) : (respondRead d s).ctrl = s.ctrl := rfl
@[simp] theorem respondRead_sticky (d : Word) (s : State) : (respondRead d s).sticky = s.sticky := rfl
@[simp] theorem respondRead_flags (d : Word) (s : State) : (respondRead d s).flags = s.flags := rfl
@[simp] theorem respondRead_irqEn (d : Word) (s : State) : (respondRead d s).irqEn = s.irqEn := rfl
@[simp] theorem respondRead_keyCode (d : Word) (s : State) : (respondRead d s).keyCode = s.keyCode := rfl
@[simp] theorem respondRead_keyRow (d : Word) (s : State) : (respondRead d s).keyRow = s.keyRow := rfl
@[simp] theorem respondRead_keyCol (d : Word) (s : State) : (respondRead d s).keyCol = s.keyCol := rfl
@[simp] theorem respondRead_tagCause (d : Word) (s : State) : (respondRead d s).tagCause = s.tagCause := rfl
@[simp] theorem respondRead_cmdCause (d : Word) (s : State) : (respondRead d s).cmdCause = s.cmdCause := rfl
@[simp] theorem respondRead_busCause (d : Word) (s : State) : (respondRead d s).busCause = s.busCause := rfl
@[simp] theorem respondRead_dbPeriod (d : Word) (s : State) : (respondRead d s).dbPeriod = s.dbPeriod := rfl
@[simp] theorem respondRead_pollPeriod (d : Word) (s : State) : (respondRead d s).pollPeriod = s.pollPeriod := rfl
@[simp] theorem respondRead_xcvTimeout (d : Word) (s : State) : (respondRead d s).xcvTimeout = s.xcvTimeout := rfl
@[simp] theorem respondRead_dispPeriod (d : Word) (s : State) : (respondRead d s).dispPeriod = s.dispPeriod := rfl
@[simp] theorem respondRead_dbCount (d : Word) (s : State) : (respondRead d s).dbCount = s.dbCount := rfl
@[simp] theorem respondRead_pollCount (d : Word) (s : State) : (respondRead d s).pollCount = s.pollCount := rfl
@[simp] theorem respondRead_xcvCount (d : Word) (s : State) : (respondRead d s).xcvCount = s.xcvCount := rfl
@[simp] theorem respondRead_dispCount (d : Word) (s : State) : (respondRead d s).dispCount = s.dispCount := rfl
@[simp] theorem respondRead_tagUidlen (d : Word) (s : State) : (respondRead d s).tagUidlen = s.tagUidlen := rfl
@[simp] theorem respondRead_tagUid0 (d : Word) (s : State) : (respondRead d s).tagUid0 = s.tagUid0 := rfl
@[simp] theorem respondRead_tagUid1 (d : Word) (s : State) : (respondRead d s).tagUid1 = s.tagUid1 := rfl
@[simp] theorem respondRead_tagUid2 (d : Word) (s : State) : (respondRead d s).tagUid2 = s.tagUid2 := rfl
@[simp] theorem respondRead_tagData0 (d : Word) (s : State) : (respondRead d s).tagData0 = s.tagData0 := rfl
@[simp] theorem respondRead_tagData1 (d : Word) (s : State) : (respondRead d s).tagData1 = s.tagData1 := rfl
@[simp] theorem respondRead_tagData2 (d : Word) (s : State) : (respondRead d s).tagData2 = s.tagData2 := rfl
@[simp] theorem respondRead_tagData3 (d : Word) (s : State) : (respondRead d s).tagData3 = s.tagData3 := rfl
@[simp] theorem respondRead_ledger (d : Word) (s : State) : (respondRead d s).ledger = s.ledger := rfl
@[simp] theorem respondRead_kpState (d : Word) (s : State) : (respondRead d s).kpState = s.kpState := rfl
@[simp] theorem respondRead_colPrev (d : Word) (s : State) : (respondRead d s).colPrev = s.colPrev := rfl
@[simp] theorem respondRead_rowPrev (d : Word) (s : State) : (respondRead d s).rowPrev = s.rowPrev := rfl
@[simp] theorem respondRead_tagState (d : Word) (s : State) : (respondRead d s).tagState = s.tagState := rfl
@[simp] theorem respondRead_rdPend (d : Word) (s : State) : (respondRead d s).rdPend = s.rdPend := rfl
@[simp] theorem respondRead_rdIssue (d : Word) (s : State) : (respondRead d s).rdIssue = s.rdIssue := rfl
@[simp] theorem respondRead_rdOp (d : Word) (s : State) : (respondRead d s).rdOp = s.rdOp := rfl
@[simp] theorem respondRead_rdAbortQ (d : Word) (s : State) : (respondRead d s).rdAbortQ = s.rdAbortQ := rfl
@[simp] theorem respondRead_uidSh (d : Word) (s : State) : (respondRead d s).uidSh = s.uidSh := rfl
@[simp] theorem respondRead_uidlenSh (d : Word) (s : State) : (respondRead d s).uidlenSh = s.uidlenSh := rfl
@[simp] theorem respondRead_pinPrev (d : Word) (s : State) : (respondRead d s).pinPrev = s.pinPrev := rfl
@[simp] theorem respondRead_fccState (d : Word) (s : State) : (respondRead d s).fccState = s.fccState := rfl
@[simp] theorem respondRead_flIssue (d : Word) (s : State) : (respondRead d s).flIssue = s.flIssue := rfl
@[simp] theorem respondRead_flOp (d : Word) (s : State) : (respondRead d s).flOp = s.flOp := rfl
@[simp] theorem respondRead_flPend (d : Word) (s : State) : (respondRead d s).flPend = s.flPend := rfl
@[simp] theorem respondRead_presc (d : Word) (s : State) : (respondRead d s).presc = s.presc := rfl
@[simp] theorem respondRead_busRdata (d : Word) (s : State) : (respondRead d s).busRdata = d := rfl
@[simp] theorem respondRead_busErr (d : Word) (s : State) : (respondRead d s).busErr = false := rfl
@[simp] theorem respondRead_flash (d : Word) (s : State) : (respondRead d s).flash = s.flash := rfl
@[simp] theorem respondRead_freeIdx (d : Word) (s : State) : (respondRead d s).freeIdx = s.freeIdx := rfl
@[simp] theorem respondRead_inputs (d : Word) (s : State) : (respondRead d s).inputs = s.inputs := rfl
@[simp] theorem respondRead_params (d : Word) (s : State) : (respondRead d s).params = s.params := rfl

@[simp] theorem respondWrite_ctrl (s : State) : (respondWrite s).ctrl = s.ctrl := rfl
@[simp] theorem respondWrite_sticky (s : State) : (respondWrite s).sticky = s.sticky := rfl
@[simp] theorem respondWrite_flags (s : State) : (respondWrite s).flags = s.flags := rfl
@[simp] theorem respondWrite_irqEn (s : State) : (respondWrite s).irqEn = s.irqEn := rfl
@[simp] theorem respondWrite_keyCode (s : State) : (respondWrite s).keyCode = s.keyCode := rfl
@[simp] theorem respondWrite_keyRow (s : State) : (respondWrite s).keyRow = s.keyRow := rfl
@[simp] theorem respondWrite_keyCol (s : State) : (respondWrite s).keyCol = s.keyCol := rfl
@[simp] theorem respondWrite_tagCause (s : State) : (respondWrite s).tagCause = s.tagCause := rfl
@[simp] theorem respondWrite_cmdCause (s : State) : (respondWrite s).cmdCause = s.cmdCause := rfl
@[simp] theorem respondWrite_busCause (s : State) : (respondWrite s).busCause = s.busCause := rfl
@[simp] theorem respondWrite_dbPeriod (s : State) : (respondWrite s).dbPeriod = s.dbPeriod := rfl
@[simp] theorem respondWrite_pollPeriod (s : State) : (respondWrite s).pollPeriod = s.pollPeriod := rfl
@[simp] theorem respondWrite_xcvTimeout (s : State) : (respondWrite s).xcvTimeout = s.xcvTimeout := rfl
@[simp] theorem respondWrite_dispPeriod (s : State) : (respondWrite s).dispPeriod = s.dispPeriod := rfl
@[simp] theorem respondWrite_dbCount (s : State) : (respondWrite s).dbCount = s.dbCount := rfl
@[simp] theorem respondWrite_pollCount (s : State) : (respondWrite s).pollCount = s.pollCount := rfl
@[simp] theorem respondWrite_xcvCount (s : State) : (respondWrite s).xcvCount = s.xcvCount := rfl
@[simp] theorem respondWrite_dispCount (s : State) : (respondWrite s).dispCount = s.dispCount := rfl
@[simp] theorem respondWrite_tagUidlen (s : State) : (respondWrite s).tagUidlen = s.tagUidlen := rfl
@[simp] theorem respondWrite_tagUid0 (s : State) : (respondWrite s).tagUid0 = s.tagUid0 := rfl
@[simp] theorem respondWrite_tagUid1 (s : State) : (respondWrite s).tagUid1 = s.tagUid1 := rfl
@[simp] theorem respondWrite_tagUid2 (s : State) : (respondWrite s).tagUid2 = s.tagUid2 := rfl
@[simp] theorem respondWrite_tagData0 (s : State) : (respondWrite s).tagData0 = s.tagData0 := rfl
@[simp] theorem respondWrite_tagData1 (s : State) : (respondWrite s).tagData1 = s.tagData1 := rfl
@[simp] theorem respondWrite_tagData2 (s : State) : (respondWrite s).tagData2 = s.tagData2 := rfl
@[simp] theorem respondWrite_tagData3 (s : State) : (respondWrite s).tagData3 = s.tagData3 := rfl
@[simp] theorem respondWrite_ledger (s : State) : (respondWrite s).ledger = s.ledger := rfl
@[simp] theorem respondWrite_kpState (s : State) : (respondWrite s).kpState = s.kpState := rfl
@[simp] theorem respondWrite_colPrev (s : State) : (respondWrite s).colPrev = s.colPrev := rfl
@[simp] theorem respondWrite_rowPrev (s : State) : (respondWrite s).rowPrev = s.rowPrev := rfl
@[simp] theorem respondWrite_tagState (s : State) : (respondWrite s).tagState = s.tagState := rfl
@[simp] theorem respondWrite_rdPend (s : State) : (respondWrite s).rdPend = s.rdPend := rfl
@[simp] theorem respondWrite_rdIssue (s : State) : (respondWrite s).rdIssue = s.rdIssue := rfl
@[simp] theorem respondWrite_rdOp (s : State) : (respondWrite s).rdOp = s.rdOp := rfl
@[simp] theorem respondWrite_rdAbortQ (s : State) : (respondWrite s).rdAbortQ = s.rdAbortQ := rfl
@[simp] theorem respondWrite_uidSh (s : State) : (respondWrite s).uidSh = s.uidSh := rfl
@[simp] theorem respondWrite_uidlenSh (s : State) : (respondWrite s).uidlenSh = s.uidlenSh := rfl
@[simp] theorem respondWrite_pinPrev (s : State) : (respondWrite s).pinPrev = s.pinPrev := rfl
@[simp] theorem respondWrite_fccState (s : State) : (respondWrite s).fccState = s.fccState := rfl
@[simp] theorem respondWrite_flIssue (s : State) : (respondWrite s).flIssue = s.flIssue := rfl
@[simp] theorem respondWrite_flOp (s : State) : (respondWrite s).flOp = s.flOp := rfl
@[simp] theorem respondWrite_flPend (s : State) : (respondWrite s).flPend = s.flPend := rfl
@[simp] theorem respondWrite_presc (s : State) : (respondWrite s).presc = s.presc := rfl
@[simp] theorem respondWrite_busRdata (s : State) : (respondWrite s).busRdata = 0 := rfl
@[simp] theorem respondWrite_busErr (s : State) : (respondWrite s).busErr = false := rfl
@[simp] theorem respondWrite_flash (s : State) : (respondWrite s).flash = s.flash := rfl
@[simp] theorem respondWrite_freeIdx (s : State) : (respondWrite s).freeIdx = s.freeIdx := rfl
@[simp] theorem respondWrite_inputs (s : State) : (respondWrite s).inputs = s.inputs := rfl
@[simp] theorem respondWrite_params (s : State) : (respondWrite s).params = s.params := rfl

@[simp] theorem setFlag_ctrl (f : Flag) (s : State) : (setFlag f s).ctrl = s.ctrl := rfl
@[simp] theorem setFlag_sticky (f : Flag) (s : State) : (setFlag f s).sticky = s.sticky := rfl
@[simp] theorem setFlag_flags (f : Flag) (s : State) : (setFlag f s).flags = s.flags ||| flagMask f := rfl
@[simp] theorem setFlag_irqEn (f : Flag) (s : State) : (setFlag f s).irqEn = s.irqEn := rfl
@[simp] theorem setFlag_keyCode (f : Flag) (s : State) : (setFlag f s).keyCode = s.keyCode := rfl
@[simp] theorem setFlag_keyRow (f : Flag) (s : State) : (setFlag f s).keyRow = s.keyRow := rfl
@[simp] theorem setFlag_keyCol (f : Flag) (s : State) : (setFlag f s).keyCol = s.keyCol := rfl
@[simp] theorem setFlag_tagCause (f : Flag) (s : State) : (setFlag f s).tagCause = s.tagCause := rfl
@[simp] theorem setFlag_cmdCause (f : Flag) (s : State) : (setFlag f s).cmdCause = s.cmdCause := rfl
@[simp] theorem setFlag_busCause (f : Flag) (s : State) : (setFlag f s).busCause = s.busCause := rfl
@[simp] theorem setFlag_dbPeriod (f : Flag) (s : State) : (setFlag f s).dbPeriod = s.dbPeriod := rfl
@[simp] theorem setFlag_pollPeriod (f : Flag) (s : State) : (setFlag f s).pollPeriod = s.pollPeriod := rfl
@[simp] theorem setFlag_xcvTimeout (f : Flag) (s : State) : (setFlag f s).xcvTimeout = s.xcvTimeout := rfl
@[simp] theorem setFlag_dispPeriod (f : Flag) (s : State) : (setFlag f s).dispPeriod = s.dispPeriod := rfl
@[simp] theorem setFlag_dbCount (f : Flag) (s : State) : (setFlag f s).dbCount = s.dbCount := rfl
@[simp] theorem setFlag_pollCount (f : Flag) (s : State) : (setFlag f s).pollCount = s.pollCount := rfl
@[simp] theorem setFlag_xcvCount (f : Flag) (s : State) : (setFlag f s).xcvCount = s.xcvCount := rfl
@[simp] theorem setFlag_dispCount (f : Flag) (s : State) : (setFlag f s).dispCount = s.dispCount := rfl
@[simp] theorem setFlag_tagUidlen (f : Flag) (s : State) : (setFlag f s).tagUidlen = s.tagUidlen := rfl
@[simp] theorem setFlag_tagUid0 (f : Flag) (s : State) : (setFlag f s).tagUid0 = s.tagUid0 := rfl
@[simp] theorem setFlag_tagUid1 (f : Flag) (s : State) : (setFlag f s).tagUid1 = s.tagUid1 := rfl
@[simp] theorem setFlag_tagUid2 (f : Flag) (s : State) : (setFlag f s).tagUid2 = s.tagUid2 := rfl
@[simp] theorem setFlag_tagData0 (f : Flag) (s : State) : (setFlag f s).tagData0 = s.tagData0 := rfl
@[simp] theorem setFlag_tagData1 (f : Flag) (s : State) : (setFlag f s).tagData1 = s.tagData1 := rfl
@[simp] theorem setFlag_tagData2 (f : Flag) (s : State) : (setFlag f s).tagData2 = s.tagData2 := rfl
@[simp] theorem setFlag_tagData3 (f : Flag) (s : State) : (setFlag f s).tagData3 = s.tagData3 := rfl
@[simp] theorem setFlag_ledger (f : Flag) (s : State) : (setFlag f s).ledger = s.ledger := rfl
@[simp] theorem setFlag_kpState (f : Flag) (s : State) : (setFlag f s).kpState = s.kpState := rfl
@[simp] theorem setFlag_colPrev (f : Flag) (s : State) : (setFlag f s).colPrev = s.colPrev := rfl
@[simp] theorem setFlag_rowPrev (f : Flag) (s : State) : (setFlag f s).rowPrev = s.rowPrev := rfl
@[simp] theorem setFlag_tagState (f : Flag) (s : State) : (setFlag f s).tagState = s.tagState := rfl
@[simp] theorem setFlag_rdPend (f : Flag) (s : State) : (setFlag f s).rdPend = s.rdPend := rfl
@[simp] theorem setFlag_rdIssue (f : Flag) (s : State) : (setFlag f s).rdIssue = s.rdIssue := rfl
@[simp] theorem setFlag_rdOp (f : Flag) (s : State) : (setFlag f s).rdOp = s.rdOp := rfl
@[simp] theorem setFlag_rdAbortQ (f : Flag) (s : State) : (setFlag f s).rdAbortQ = s.rdAbortQ := rfl
@[simp] theorem setFlag_uidSh (f : Flag) (s : State) : (setFlag f s).uidSh = s.uidSh := rfl
@[simp] theorem setFlag_uidlenSh (f : Flag) (s : State) : (setFlag f s).uidlenSh = s.uidlenSh := rfl
@[simp] theorem setFlag_pinPrev (f : Flag) (s : State) : (setFlag f s).pinPrev = s.pinPrev := rfl
@[simp] theorem setFlag_fccState (f : Flag) (s : State) : (setFlag f s).fccState = s.fccState := rfl
@[simp] theorem setFlag_flIssue (f : Flag) (s : State) : (setFlag f s).flIssue = s.flIssue := rfl
@[simp] theorem setFlag_flOp (f : Flag) (s : State) : (setFlag f s).flOp = s.flOp := rfl
@[simp] theorem setFlag_flPend (f : Flag) (s : State) : (setFlag f s).flPend = s.flPend := rfl
@[simp] theorem setFlag_presc (f : Flag) (s : State) : (setFlag f s).presc = s.presc := rfl
@[simp] theorem setFlag_busRdata (f : Flag) (s : State) : (setFlag f s).busRdata = s.busRdata := rfl
@[simp] theorem setFlag_busErr (f : Flag) (s : State) : (setFlag f s).busErr = s.busErr := rfl
@[simp] theorem setFlag_flash (f : Flag) (s : State) : (setFlag f s).flash = s.flash := rfl
@[simp] theorem setFlag_freeIdx (f : Flag) (s : State) : (setFlag f s).freeIdx = s.freeIdx := rfl
@[simp] theorem setFlag_inputs (f : Flag) (s : State) : (setFlag f s).inputs = s.inputs := rfl
@[simp] theorem setFlag_params (f : Flag) (s : State) : (setFlag f s).params = s.params := rfl

@[simp] theorem clearFlags_ctrl (m : BitVec 5) (s : State) : (clearFlags m s).ctrl = s.ctrl := rfl
@[simp] theorem clearFlags_sticky (m : BitVec 5) (s : State) : (clearFlags m s).sticky = s.sticky := rfl
@[simp] theorem clearFlags_flags (m : BitVec 5) (s : State) : (clearFlags m s).flags = s.flags &&& ~~~m := rfl
@[simp] theorem clearFlags_irqEn (m : BitVec 5) (s : State) : (clearFlags m s).irqEn = s.irqEn := rfl
@[simp] theorem clearFlags_keyCode (m : BitVec 5) (s : State) : (clearFlags m s).keyCode = s.keyCode := rfl
@[simp] theorem clearFlags_keyRow (m : BitVec 5) (s : State) : (clearFlags m s).keyRow = s.keyRow := rfl
@[simp] theorem clearFlags_keyCol (m : BitVec 5) (s : State) : (clearFlags m s).keyCol = s.keyCol := rfl
@[simp] theorem clearFlags_tagCause (m : BitVec 5) (s : State) : (clearFlags m s).tagCause = s.tagCause := rfl
@[simp] theorem clearFlags_cmdCause (m : BitVec 5) (s : State) : (clearFlags m s).cmdCause = s.cmdCause := rfl
@[simp] theorem clearFlags_busCause (m : BitVec 5) (s : State) : (clearFlags m s).busCause = s.busCause := rfl
@[simp] theorem clearFlags_dbPeriod (m : BitVec 5) (s : State) : (clearFlags m s).dbPeriod = s.dbPeriod := rfl
@[simp] theorem clearFlags_pollPeriod (m : BitVec 5) (s : State) : (clearFlags m s).pollPeriod = s.pollPeriod := rfl
@[simp] theorem clearFlags_xcvTimeout (m : BitVec 5) (s : State) : (clearFlags m s).xcvTimeout = s.xcvTimeout := rfl
@[simp] theorem clearFlags_dispPeriod (m : BitVec 5) (s : State) : (clearFlags m s).dispPeriod = s.dispPeriod := rfl
@[simp] theorem clearFlags_dbCount (m : BitVec 5) (s : State) : (clearFlags m s).dbCount = s.dbCount := rfl
@[simp] theorem clearFlags_pollCount (m : BitVec 5) (s : State) : (clearFlags m s).pollCount = s.pollCount := rfl
@[simp] theorem clearFlags_xcvCount (m : BitVec 5) (s : State) : (clearFlags m s).xcvCount = s.xcvCount := rfl
@[simp] theorem clearFlags_dispCount (m : BitVec 5) (s : State) : (clearFlags m s).dispCount = s.dispCount := rfl
@[simp] theorem clearFlags_tagUidlen (m : BitVec 5) (s : State) : (clearFlags m s).tagUidlen = s.tagUidlen := rfl
@[simp] theorem clearFlags_tagUid0 (m : BitVec 5) (s : State) : (clearFlags m s).tagUid0 = s.tagUid0 := rfl
@[simp] theorem clearFlags_tagUid1 (m : BitVec 5) (s : State) : (clearFlags m s).tagUid1 = s.tagUid1 := rfl
@[simp] theorem clearFlags_tagUid2 (m : BitVec 5) (s : State) : (clearFlags m s).tagUid2 = s.tagUid2 := rfl
@[simp] theorem clearFlags_tagData0 (m : BitVec 5) (s : State) : (clearFlags m s).tagData0 = s.tagData0 := rfl
@[simp] theorem clearFlags_tagData1 (m : BitVec 5) (s : State) : (clearFlags m s).tagData1 = s.tagData1 := rfl
@[simp] theorem clearFlags_tagData2 (m : BitVec 5) (s : State) : (clearFlags m s).tagData2 = s.tagData2 := rfl
@[simp] theorem clearFlags_tagData3 (m : BitVec 5) (s : State) : (clearFlags m s).tagData3 = s.tagData3 := rfl
@[simp] theorem clearFlags_ledger (m : BitVec 5) (s : State) : (clearFlags m s).ledger = s.ledger := rfl
@[simp] theorem clearFlags_kpState (m : BitVec 5) (s : State) : (clearFlags m s).kpState = s.kpState := rfl
@[simp] theorem clearFlags_colPrev (m : BitVec 5) (s : State) : (clearFlags m s).colPrev = s.colPrev := rfl
@[simp] theorem clearFlags_rowPrev (m : BitVec 5) (s : State) : (clearFlags m s).rowPrev = s.rowPrev := rfl
@[simp] theorem clearFlags_tagState (m : BitVec 5) (s : State) : (clearFlags m s).tagState = s.tagState := rfl
@[simp] theorem clearFlags_rdPend (m : BitVec 5) (s : State) : (clearFlags m s).rdPend = s.rdPend := rfl
@[simp] theorem clearFlags_rdIssue (m : BitVec 5) (s : State) : (clearFlags m s).rdIssue = s.rdIssue := rfl
@[simp] theorem clearFlags_rdOp (m : BitVec 5) (s : State) : (clearFlags m s).rdOp = s.rdOp := rfl
@[simp] theorem clearFlags_rdAbortQ (m : BitVec 5) (s : State) : (clearFlags m s).rdAbortQ = s.rdAbortQ := rfl
@[simp] theorem clearFlags_uidSh (m : BitVec 5) (s : State) : (clearFlags m s).uidSh = s.uidSh := rfl
@[simp] theorem clearFlags_uidlenSh (m : BitVec 5) (s : State) : (clearFlags m s).uidlenSh = s.uidlenSh := rfl
@[simp] theorem clearFlags_pinPrev (m : BitVec 5) (s : State) : (clearFlags m s).pinPrev = s.pinPrev := rfl
@[simp] theorem clearFlags_fccState (m : BitVec 5) (s : State) : (clearFlags m s).fccState = s.fccState := rfl
@[simp] theorem clearFlags_flIssue (m : BitVec 5) (s : State) : (clearFlags m s).flIssue = s.flIssue := rfl
@[simp] theorem clearFlags_flOp (m : BitVec 5) (s : State) : (clearFlags m s).flOp = s.flOp := rfl
@[simp] theorem clearFlags_flPend (m : BitVec 5) (s : State) : (clearFlags m s).flPend = s.flPend := rfl
@[simp] theorem clearFlags_presc (m : BitVec 5) (s : State) : (clearFlags m s).presc = s.presc := rfl
@[simp] theorem clearFlags_busRdata (m : BitVec 5) (s : State) : (clearFlags m s).busRdata = s.busRdata := rfl
@[simp] theorem clearFlags_busErr (m : BitVec 5) (s : State) : (clearFlags m s).busErr = s.busErr := rfl
@[simp] theorem clearFlags_flash (m : BitVec 5) (s : State) : (clearFlags m s).flash = s.flash := rfl
@[simp] theorem clearFlags_freeIdx (m : BitVec 5) (s : State) : (clearFlags m s).freeIdx = s.freeIdx := rfl
@[simp] theorem clearFlags_inputs (m : BitVec 5) (s : State) : (clearFlags m s).inputs = s.inputs := rfl
@[simp] theorem clearFlags_params (m : BitVec 5) (s : State) : (clearFlags m s).params = s.params := rfl

@[simp] theorem clearSticky_ctrl (m : BitVec 4) (s : State) : (clearSticky m s).ctrl = s.ctrl := rfl
@[simp] theorem clearSticky_sticky (m : BitVec 4) (s : State) : (clearSticky m s).sticky = s.sticky &&& ~~~m := rfl
@[simp] theorem clearSticky_flags (m : BitVec 4) (s : State) : (clearSticky m s).flags = s.flags := rfl
@[simp] theorem clearSticky_irqEn (m : BitVec 4) (s : State) : (clearSticky m s).irqEn = s.irqEn := rfl
@[simp] theorem clearSticky_keyCode (m : BitVec 4) (s : State) : (clearSticky m s).keyCode = s.keyCode := rfl
@[simp] theorem clearSticky_keyRow (m : BitVec 4) (s : State) : (clearSticky m s).keyRow = s.keyRow := rfl
@[simp] theorem clearSticky_keyCol (m : BitVec 4) (s : State) : (clearSticky m s).keyCol = s.keyCol := rfl
@[simp] theorem clearSticky_tagCause (m : BitVec 4) (s : State) : (clearSticky m s).tagCause = s.tagCause := rfl
@[simp] theorem clearSticky_cmdCause (m : BitVec 4) (s : State) : (clearSticky m s).cmdCause = s.cmdCause := rfl
@[simp] theorem clearSticky_busCause (m : BitVec 4) (s : State) : (clearSticky m s).busCause = s.busCause := rfl
@[simp] theorem clearSticky_dbPeriod (m : BitVec 4) (s : State) : (clearSticky m s).dbPeriod = s.dbPeriod := rfl
@[simp] theorem clearSticky_pollPeriod (m : BitVec 4) (s : State) : (clearSticky m s).pollPeriod = s.pollPeriod := rfl
@[simp] theorem clearSticky_xcvTimeout (m : BitVec 4) (s : State) : (clearSticky m s).xcvTimeout = s.xcvTimeout := rfl
@[simp] theorem clearSticky_dispPeriod (m : BitVec 4) (s : State) : (clearSticky m s).dispPeriod = s.dispPeriod := rfl
@[simp] theorem clearSticky_dbCount (m : BitVec 4) (s : State) : (clearSticky m s).dbCount = s.dbCount := rfl
@[simp] theorem clearSticky_pollCount (m : BitVec 4) (s : State) : (clearSticky m s).pollCount = s.pollCount := rfl
@[simp] theorem clearSticky_xcvCount (m : BitVec 4) (s : State) : (clearSticky m s).xcvCount = s.xcvCount := rfl
@[simp] theorem clearSticky_dispCount (m : BitVec 4) (s : State) : (clearSticky m s).dispCount = s.dispCount := rfl
@[simp] theorem clearSticky_tagUidlen (m : BitVec 4) (s : State) : (clearSticky m s).tagUidlen = s.tagUidlen := rfl
@[simp] theorem clearSticky_tagUid0 (m : BitVec 4) (s : State) : (clearSticky m s).tagUid0 = s.tagUid0 := rfl
@[simp] theorem clearSticky_tagUid1 (m : BitVec 4) (s : State) : (clearSticky m s).tagUid1 = s.tagUid1 := rfl
@[simp] theorem clearSticky_tagUid2 (m : BitVec 4) (s : State) : (clearSticky m s).tagUid2 = s.tagUid2 := rfl
@[simp] theorem clearSticky_tagData0 (m : BitVec 4) (s : State) : (clearSticky m s).tagData0 = s.tagData0 := rfl
@[simp] theorem clearSticky_tagData1 (m : BitVec 4) (s : State) : (clearSticky m s).tagData1 = s.tagData1 := rfl
@[simp] theorem clearSticky_tagData2 (m : BitVec 4) (s : State) : (clearSticky m s).tagData2 = s.tagData2 := rfl
@[simp] theorem clearSticky_tagData3 (m : BitVec 4) (s : State) : (clearSticky m s).tagData3 = s.tagData3 := rfl
@[simp] theorem clearSticky_ledger (m : BitVec 4) (s : State) : (clearSticky m s).ledger = s.ledger := rfl
@[simp] theorem clearSticky_kpState (m : BitVec 4) (s : State) : (clearSticky m s).kpState = s.kpState := rfl
@[simp] theorem clearSticky_colPrev (m : BitVec 4) (s : State) : (clearSticky m s).colPrev = s.colPrev := rfl
@[simp] theorem clearSticky_rowPrev (m : BitVec 4) (s : State) : (clearSticky m s).rowPrev = s.rowPrev := rfl
@[simp] theorem clearSticky_tagState (m : BitVec 4) (s : State) : (clearSticky m s).tagState = s.tagState := rfl
@[simp] theorem clearSticky_rdPend (m : BitVec 4) (s : State) : (clearSticky m s).rdPend = s.rdPend := rfl
@[simp] theorem clearSticky_rdIssue (m : BitVec 4) (s : State) : (clearSticky m s).rdIssue = s.rdIssue := rfl
@[simp] theorem clearSticky_rdOp (m : BitVec 4) (s : State) : (clearSticky m s).rdOp = s.rdOp := rfl
@[simp] theorem clearSticky_rdAbortQ (m : BitVec 4) (s : State) : (clearSticky m s).rdAbortQ = s.rdAbortQ := rfl
@[simp] theorem clearSticky_uidSh (m : BitVec 4) (s : State) : (clearSticky m s).uidSh = s.uidSh := rfl
@[simp] theorem clearSticky_uidlenSh (m : BitVec 4) (s : State) : (clearSticky m s).uidlenSh = s.uidlenSh := rfl
@[simp] theorem clearSticky_pinPrev (m : BitVec 4) (s : State) : (clearSticky m s).pinPrev = s.pinPrev := rfl
@[simp] theorem clearSticky_fccState (m : BitVec 4) (s : State) : (clearSticky m s).fccState = s.fccState := rfl
@[simp] theorem clearSticky_flIssue (m : BitVec 4) (s : State) : (clearSticky m s).flIssue = s.flIssue := rfl
@[simp] theorem clearSticky_flOp (m : BitVec 4) (s : State) : (clearSticky m s).flOp = s.flOp := rfl
@[simp] theorem clearSticky_flPend (m : BitVec 4) (s : State) : (clearSticky m s).flPend = s.flPend := rfl
@[simp] theorem clearSticky_presc (m : BitVec 4) (s : State) : (clearSticky m s).presc = s.presc := rfl
@[simp] theorem clearSticky_busRdata (m : BitVec 4) (s : State) : (clearSticky m s).busRdata = s.busRdata := rfl
@[simp] theorem clearSticky_busErr (m : BitVec 4) (s : State) : (clearSticky m s).busErr = s.busErr := rfl
@[simp] theorem clearSticky_flash (m : BitVec 4) (s : State) : (clearSticky m s).flash = s.flash := rfl
@[simp] theorem clearSticky_freeIdx (m : BitVec 4) (s : State) : (clearSticky m s).freeIdx = s.freeIdx := rfl
@[simp] theorem clearSticky_inputs (m : BitVec 4) (s : State) : (clearSticky m s).inputs = s.inputs := rfl
@[simp] theorem clearSticky_params (m : BitVec 4) (s : State) : (clearSticky m s).params = s.params := rfl

@[simp] theorem raise_ctrl (e : ErrorEvent) (s : State) : (raise e s).ctrl = s.ctrl := rfl
@[simp] theorem raise_sticky (e : ErrorEvent) (s : State) : (raise e s).sticky = s.sticky ||| stickyMask e := rfl
@[simp] theorem raise_flags (e : ErrorEvent) (s : State) : (raise e s).flags = s.flags := rfl
@[simp] theorem raise_irqEn (e : ErrorEvent) (s : State) : (raise e s).irqEn = s.irqEn := rfl
@[simp] theorem raise_keyCode (e : ErrorEvent) (s : State) : (raise e s).keyCode = s.keyCode := rfl
@[simp] theorem raise_keyRow (e : ErrorEvent) (s : State) : (raise e s).keyRow = s.keyRow := rfl
@[simp] theorem raise_keyCol (e : ErrorEvent) (s : State) : (raise e s).keyCol = s.keyCol := rfl
@[simp] theorem raise_dbPeriod (e : ErrorEvent) (s : State) : (raise e s).dbPeriod = s.dbPeriod := rfl
@[simp] theorem raise_pollPeriod (e : ErrorEvent) (s : State) : (raise e s).pollPeriod = s.pollPeriod := rfl
@[simp] theorem raise_xcvTimeout (e : ErrorEvent) (s : State) : (raise e s).xcvTimeout = s.xcvTimeout := rfl
@[simp] theorem raise_dispPeriod (e : ErrorEvent) (s : State) : (raise e s).dispPeriod = s.dispPeriod := rfl
@[simp] theorem raise_dbCount (e : ErrorEvent) (s : State) : (raise e s).dbCount = s.dbCount := rfl
@[simp] theorem raise_pollCount (e : ErrorEvent) (s : State) : (raise e s).pollCount = s.pollCount := rfl
@[simp] theorem raise_xcvCount (e : ErrorEvent) (s : State) : (raise e s).xcvCount = s.xcvCount := rfl
@[simp] theorem raise_dispCount (e : ErrorEvent) (s : State) : (raise e s).dispCount = s.dispCount := rfl
@[simp] theorem raise_tagUidlen (e : ErrorEvent) (s : State) : (raise e s).tagUidlen = s.tagUidlen := rfl
@[simp] theorem raise_tagUid0 (e : ErrorEvent) (s : State) : (raise e s).tagUid0 = s.tagUid0 := rfl
@[simp] theorem raise_tagUid1 (e : ErrorEvent) (s : State) : (raise e s).tagUid1 = s.tagUid1 := rfl
@[simp] theorem raise_tagUid2 (e : ErrorEvent) (s : State) : (raise e s).tagUid2 = s.tagUid2 := rfl
@[simp] theorem raise_tagData0 (e : ErrorEvent) (s : State) : (raise e s).tagData0 = s.tagData0 := rfl
@[simp] theorem raise_tagData1 (e : ErrorEvent) (s : State) : (raise e s).tagData1 = s.tagData1 := rfl
@[simp] theorem raise_tagData2 (e : ErrorEvent) (s : State) : (raise e s).tagData2 = s.tagData2 := rfl
@[simp] theorem raise_tagData3 (e : ErrorEvent) (s : State) : (raise e s).tagData3 = s.tagData3 := rfl
@[simp] theorem raise_ledger (e : ErrorEvent) (s : State) : (raise e s).ledger = s.ledger := rfl
@[simp] theorem raise_kpState (e : ErrorEvent) (s : State) : (raise e s).kpState = s.kpState := rfl
@[simp] theorem raise_colPrev (e : ErrorEvent) (s : State) : (raise e s).colPrev = s.colPrev := rfl
@[simp] theorem raise_rowPrev (e : ErrorEvent) (s : State) : (raise e s).rowPrev = s.rowPrev := rfl
@[simp] theorem raise_tagState (e : ErrorEvent) (s : State) : (raise e s).tagState = s.tagState := rfl
@[simp] theorem raise_rdPend (e : ErrorEvent) (s : State) : (raise e s).rdPend = s.rdPend := rfl
@[simp] theorem raise_rdIssue (e : ErrorEvent) (s : State) : (raise e s).rdIssue = s.rdIssue := rfl
@[simp] theorem raise_rdOp (e : ErrorEvent) (s : State) : (raise e s).rdOp = s.rdOp := rfl
@[simp] theorem raise_rdAbortQ (e : ErrorEvent) (s : State) : (raise e s).rdAbortQ = s.rdAbortQ := rfl
@[simp] theorem raise_uidSh (e : ErrorEvent) (s : State) : (raise e s).uidSh = s.uidSh := rfl
@[simp] theorem raise_uidlenSh (e : ErrorEvent) (s : State) : (raise e s).uidlenSh = s.uidlenSh := rfl
@[simp] theorem raise_pinPrev (e : ErrorEvent) (s : State) : (raise e s).pinPrev = s.pinPrev := rfl
@[simp] theorem raise_fccState (e : ErrorEvent) (s : State) : (raise e s).fccState = s.fccState := rfl
@[simp] theorem raise_flIssue (e : ErrorEvent) (s : State) : (raise e s).flIssue = s.flIssue := rfl
@[simp] theorem raise_flOp (e : ErrorEvent) (s : State) : (raise e s).flOp = s.flOp := rfl
@[simp] theorem raise_flPend (e : ErrorEvent) (s : State) : (raise e s).flPend = s.flPend := rfl
@[simp] theorem raise_presc (e : ErrorEvent) (s : State) : (raise e s).presc = s.presc := rfl
@[simp] theorem raise_busRdata (e : ErrorEvent) (s : State) : (raise e s).busRdata = s.busRdata := rfl
@[simp] theorem raise_busErr (e : ErrorEvent) (s : State) : (raise e s).busErr = s.busErr := rfl
@[simp] theorem raise_flash (e : ErrorEvent) (s : State) : (raise e s).flash = s.flash := rfl
@[simp] theorem raise_freeIdx (e : ErrorEvent) (s : State) : (raise e s).freeIdx = s.freeIdx := rfl
@[simp] theorem raise_inputs (e : ErrorEvent) (s : State) : (raise e s).inputs = s.inputs := rfl
@[simp] theorem raise_params (e : ErrorEvent) (s : State) : (raise e s).params = s.params := rfl

@[simp] theorem busError_ctrl (c : BusCause) (s : State) : (busError c s).ctrl = s.ctrl := rfl
@[simp] theorem busError_sticky (c : BusCause) (s : State) : (busError c s).sticky = s.sticky ||| 8 := rfl
@[simp] theorem busError_flags (c : BusCause) (s : State) : (busError c s).flags = s.flags := rfl
@[simp] theorem busError_irqEn (c : BusCause) (s : State) : (busError c s).irqEn = s.irqEn := rfl
@[simp] theorem busError_keyCode (c : BusCause) (s : State) : (busError c s).keyCode = s.keyCode := rfl
@[simp] theorem busError_keyRow (c : BusCause) (s : State) : (busError c s).keyRow = s.keyRow := rfl
@[simp] theorem busError_keyCol (c : BusCause) (s : State) : (busError c s).keyCol = s.keyCol := rfl
@[simp] theorem busError_tagCause (c : BusCause) (s : State) : (busError c s).tagCause = s.tagCause := rfl
@[simp] theorem busError_cmdCause (c : BusCause) (s : State) : (busError c s).cmdCause = s.cmdCause := rfl
@[simp] theorem busError_busCause (c : BusCause) (s : State) : (busError c s).busCause = busCauseCode c := rfl
@[simp] theorem busError_dbPeriod (c : BusCause) (s : State) : (busError c s).dbPeriod = s.dbPeriod := rfl
@[simp] theorem busError_pollPeriod (c : BusCause) (s : State) : (busError c s).pollPeriod = s.pollPeriod := rfl
@[simp] theorem busError_xcvTimeout (c : BusCause) (s : State) : (busError c s).xcvTimeout = s.xcvTimeout := rfl
@[simp] theorem busError_dispPeriod (c : BusCause) (s : State) : (busError c s).dispPeriod = s.dispPeriod := rfl
@[simp] theorem busError_dbCount (c : BusCause) (s : State) : (busError c s).dbCount = s.dbCount := rfl
@[simp] theorem busError_pollCount (c : BusCause) (s : State) : (busError c s).pollCount = s.pollCount := rfl
@[simp] theorem busError_xcvCount (c : BusCause) (s : State) : (busError c s).xcvCount = s.xcvCount := rfl
@[simp] theorem busError_dispCount (c : BusCause) (s : State) : (busError c s).dispCount = s.dispCount := rfl
@[simp] theorem busError_tagUidlen (c : BusCause) (s : State) : (busError c s).tagUidlen = s.tagUidlen := rfl
@[simp] theorem busError_tagUid0 (c : BusCause) (s : State) : (busError c s).tagUid0 = s.tagUid0 := rfl
@[simp] theorem busError_tagUid1 (c : BusCause) (s : State) : (busError c s).tagUid1 = s.tagUid1 := rfl
@[simp] theorem busError_tagUid2 (c : BusCause) (s : State) : (busError c s).tagUid2 = s.tagUid2 := rfl
@[simp] theorem busError_tagData0 (c : BusCause) (s : State) : (busError c s).tagData0 = s.tagData0 := rfl
@[simp] theorem busError_tagData1 (c : BusCause) (s : State) : (busError c s).tagData1 = s.tagData1 := rfl
@[simp] theorem busError_tagData2 (c : BusCause) (s : State) : (busError c s).tagData2 = s.tagData2 := rfl
@[simp] theorem busError_tagData3 (c : BusCause) (s : State) : (busError c s).tagData3 = s.tagData3 := rfl
@[simp] theorem busError_ledger (c : BusCause) (s : State) : (busError c s).ledger = s.ledger := rfl
@[simp] theorem busError_kpState (c : BusCause) (s : State) : (busError c s).kpState = s.kpState := rfl
@[simp] theorem busError_colPrev (c : BusCause) (s : State) : (busError c s).colPrev = s.colPrev := rfl
@[simp] theorem busError_rowPrev (c : BusCause) (s : State) : (busError c s).rowPrev = s.rowPrev := rfl
@[simp] theorem busError_tagState (c : BusCause) (s : State) : (busError c s).tagState = s.tagState := rfl
@[simp] theorem busError_rdPend (c : BusCause) (s : State) : (busError c s).rdPend = s.rdPend := rfl
@[simp] theorem busError_rdIssue (c : BusCause) (s : State) : (busError c s).rdIssue = s.rdIssue := rfl
@[simp] theorem busError_rdOp (c : BusCause) (s : State) : (busError c s).rdOp = s.rdOp := rfl
@[simp] theorem busError_rdAbortQ (c : BusCause) (s : State) : (busError c s).rdAbortQ = s.rdAbortQ := rfl
@[simp] theorem busError_uidSh (c : BusCause) (s : State) : (busError c s).uidSh = s.uidSh := rfl
@[simp] theorem busError_uidlenSh (c : BusCause) (s : State) : (busError c s).uidlenSh = s.uidlenSh := rfl
@[simp] theorem busError_pinPrev (c : BusCause) (s : State) : (busError c s).pinPrev = s.pinPrev := rfl
@[simp] theorem busError_fccState (c : BusCause) (s : State) : (busError c s).fccState = s.fccState := rfl
@[simp] theorem busError_flIssue (c : BusCause) (s : State) : (busError c s).flIssue = s.flIssue := rfl
@[simp] theorem busError_flOp (c : BusCause) (s : State) : (busError c s).flOp = s.flOp := rfl
@[simp] theorem busError_flPend (c : BusCause) (s : State) : (busError c s).flPend = s.flPend := rfl
@[simp] theorem busError_presc (c : BusCause) (s : State) : (busError c s).presc = s.presc := rfl
@[simp] theorem busError_busRdata (c : BusCause) (s : State) : (busError c s).busRdata = 0 := rfl
@[simp] theorem busError_busErr (c : BusCause) (s : State) : (busError c s).busErr = true := rfl
@[simp] theorem busError_flash (c : BusCause) (s : State) : (busError c s).flash = s.flash := rfl
@[simp] theorem busError_freeIdx (c : BusCause) (s : State) : (busError c s).freeIdx = s.freeIdx := rfl
@[simp] theorem busError_inputs (c : BusCause) (s : State) : (busError c s).inputs = s.inputs := rfl
@[simp] theorem busError_params (c : BusCause) (s : State) : (busError c s).params = s.params := rfl

@[simp] theorem issueRdr_ctrl (op : RdOp) (S a : State) : (issueRdr op S a).ctrl = a.ctrl := rfl
@[simp] theorem issueRdr_sticky (op : RdOp) (S a : State) : (issueRdr op S a).sticky = a.sticky := rfl
@[simp] theorem issueRdr_flags (op : RdOp) (S a : State) : (issueRdr op S a).flags = a.flags := rfl
@[simp] theorem issueRdr_irqEn (op : RdOp) (S a : State) : (issueRdr op S a).irqEn = a.irqEn := rfl
@[simp] theorem issueRdr_keyCode (op : RdOp) (S a : State) : (issueRdr op S a).keyCode = a.keyCode := rfl
@[simp] theorem issueRdr_keyRow (op : RdOp) (S a : State) : (issueRdr op S a).keyRow = a.keyRow := rfl
@[simp] theorem issueRdr_keyCol (op : RdOp) (S a : State) : (issueRdr op S a).keyCol = a.keyCol := rfl
@[simp] theorem issueRdr_tagCause (op : RdOp) (S a : State) : (issueRdr op S a).tagCause = a.tagCause := rfl
@[simp] theorem issueRdr_cmdCause (op : RdOp) (S a : State) : (issueRdr op S a).cmdCause = a.cmdCause := rfl
@[simp] theorem issueRdr_busCause (op : RdOp) (S a : State) : (issueRdr op S a).busCause = a.busCause := rfl
@[simp] theorem issueRdr_dbPeriod (op : RdOp) (S a : State) : (issueRdr op S a).dbPeriod = a.dbPeriod := rfl
@[simp] theorem issueRdr_pollPeriod (op : RdOp) (S a : State) : (issueRdr op S a).pollPeriod = a.pollPeriod := rfl
@[simp] theorem issueRdr_xcvTimeout (op : RdOp) (S a : State) : (issueRdr op S a).xcvTimeout = a.xcvTimeout := rfl
@[simp] theorem issueRdr_dispPeriod (op : RdOp) (S a : State) : (issueRdr op S a).dispPeriod = a.dispPeriod := rfl
@[simp] theorem issueRdr_dbCount (op : RdOp) (S a : State) : (issueRdr op S a).dbCount = a.dbCount := rfl
@[simp] theorem issueRdr_pollCount (op : RdOp) (S a : State) : (issueRdr op S a).pollCount = a.pollCount := rfl
@[simp] theorem issueRdr_xcvCount (op : RdOp) (S a : State) : (issueRdr op S a).xcvCount = load S.xcvTimeout := rfl
@[simp] theorem issueRdr_dispCount (op : RdOp) (S a : State) : (issueRdr op S a).dispCount = a.dispCount := rfl
@[simp] theorem issueRdr_tagUidlen (op : RdOp) (S a : State) : (issueRdr op S a).tagUidlen = a.tagUidlen := rfl
@[simp] theorem issueRdr_tagUid0 (op : RdOp) (S a : State) : (issueRdr op S a).tagUid0 = a.tagUid0 := rfl
@[simp] theorem issueRdr_tagUid1 (op : RdOp) (S a : State) : (issueRdr op S a).tagUid1 = a.tagUid1 := rfl
@[simp] theorem issueRdr_tagUid2 (op : RdOp) (S a : State) : (issueRdr op S a).tagUid2 = a.tagUid2 := rfl
@[simp] theorem issueRdr_tagData0 (op : RdOp) (S a : State) : (issueRdr op S a).tagData0 = a.tagData0 := rfl
@[simp] theorem issueRdr_tagData1 (op : RdOp) (S a : State) : (issueRdr op S a).tagData1 = a.tagData1 := rfl
@[simp] theorem issueRdr_tagData2 (op : RdOp) (S a : State) : (issueRdr op S a).tagData2 = a.tagData2 := rfl
@[simp] theorem issueRdr_tagData3 (op : RdOp) (S a : State) : (issueRdr op S a).tagData3 = a.tagData3 := rfl
@[simp] theorem issueRdr_ledger (op : RdOp) (S a : State) : (issueRdr op S a).ledger = a.ledger := rfl
@[simp] theorem issueRdr_kpState (op : RdOp) (S a : State) : (issueRdr op S a).kpState = a.kpState := rfl
@[simp] theorem issueRdr_colPrev (op : RdOp) (S a : State) : (issueRdr op S a).colPrev = a.colPrev := rfl
@[simp] theorem issueRdr_rowPrev (op : RdOp) (S a : State) : (issueRdr op S a).rowPrev = a.rowPrev := rfl
@[simp] theorem issueRdr_tagState (op : RdOp) (S a : State) : (issueRdr op S a).tagState = a.tagState := rfl
@[simp] theorem issueRdr_rdPend (op : RdOp) (S a : State) : (issueRdr op S a).rdPend = true := rfl
@[simp] theorem issueRdr_rdIssue (op : RdOp) (S a : State) : (issueRdr op S a).rdIssue = true := rfl
@[simp] theorem issueRdr_rdOp (op : RdOp) (S a : State) : (issueRdr op S a).rdOp = op := rfl
@[simp] theorem issueRdr_rdAbortQ (op : RdOp) (S a : State) : (issueRdr op S a).rdAbortQ = a.rdAbortQ := rfl
@[simp] theorem issueRdr_uidSh (op : RdOp) (S a : State) : (issueRdr op S a).uidSh = a.uidSh := rfl
@[simp] theorem issueRdr_uidlenSh (op : RdOp) (S a : State) : (issueRdr op S a).uidlenSh = a.uidlenSh := rfl
@[simp] theorem issueRdr_pinPrev (op : RdOp) (S a : State) : (issueRdr op S a).pinPrev = a.pinPrev := rfl
@[simp] theorem issueRdr_fccState (op : RdOp) (S a : State) : (issueRdr op S a).fccState = a.fccState := rfl
@[simp] theorem issueRdr_flIssue (op : RdOp) (S a : State) : (issueRdr op S a).flIssue = a.flIssue := rfl
@[simp] theorem issueRdr_flOp (op : RdOp) (S a : State) : (issueRdr op S a).flOp = a.flOp := rfl
@[simp] theorem issueRdr_flPend (op : RdOp) (S a : State) : (issueRdr op S a).flPend = a.flPend := rfl
@[simp] theorem issueRdr_presc (op : RdOp) (S a : State) : (issueRdr op S a).presc = a.presc := rfl
@[simp] theorem issueRdr_busRdata (op : RdOp) (S a : State) : (issueRdr op S a).busRdata = a.busRdata := rfl
@[simp] theorem issueRdr_busErr (op : RdOp) (S a : State) : (issueRdr op S a).busErr = a.busErr := rfl
@[simp] theorem issueRdr_flash (op : RdOp) (S a : State) : (issueRdr op S a).flash = a.flash := rfl
@[simp] theorem issueRdr_freeIdx (op : RdOp) (S a : State) : (issueRdr op S a).freeIdx = a.freeIdx := rfl
@[simp] theorem issueRdr_inputs (op : RdOp) (S a : State) : (issueRdr op S a).inputs = a.inputs := rfl
@[simp] theorem issueRdr_params (op : RdOp) (S a : State) : (issueRdr op S a).params = a.params := rfl

@[simp] theorem issueFlp_ctrl (op : FlOp) (a : State) : (issueFlp op a).ctrl = a.ctrl := rfl
@[simp] theorem issueFlp_sticky (op : FlOp) (a : State) : (issueFlp op a).sticky = a.sticky := rfl
@[simp] theorem issueFlp_flags (op : FlOp) (a : State) : (issueFlp op a).flags = a.flags := rfl
@[simp] theorem issueFlp_irqEn (op : FlOp) (a : State) : (issueFlp op a).irqEn = a.irqEn := rfl
@[simp] theorem issueFlp_keyCode (op : FlOp) (a : State) : (issueFlp op a).keyCode = a.keyCode := rfl
@[simp] theorem issueFlp_keyRow (op : FlOp) (a : State) : (issueFlp op a).keyRow = a.keyRow := rfl
@[simp] theorem issueFlp_keyCol (op : FlOp) (a : State) : (issueFlp op a).keyCol = a.keyCol := rfl
@[simp] theorem issueFlp_tagCause (op : FlOp) (a : State) : (issueFlp op a).tagCause = a.tagCause := rfl
@[simp] theorem issueFlp_cmdCause (op : FlOp) (a : State) : (issueFlp op a).cmdCause = a.cmdCause := rfl
@[simp] theorem issueFlp_busCause (op : FlOp) (a : State) : (issueFlp op a).busCause = a.busCause := rfl
@[simp] theorem issueFlp_dbPeriod (op : FlOp) (a : State) : (issueFlp op a).dbPeriod = a.dbPeriod := rfl
@[simp] theorem issueFlp_pollPeriod (op : FlOp) (a : State) : (issueFlp op a).pollPeriod = a.pollPeriod := rfl
@[simp] theorem issueFlp_xcvTimeout (op : FlOp) (a : State) : (issueFlp op a).xcvTimeout = a.xcvTimeout := rfl
@[simp] theorem issueFlp_dispPeriod (op : FlOp) (a : State) : (issueFlp op a).dispPeriod = a.dispPeriod := rfl
@[simp] theorem issueFlp_dbCount (op : FlOp) (a : State) : (issueFlp op a).dbCount = a.dbCount := rfl
@[simp] theorem issueFlp_pollCount (op : FlOp) (a : State) : (issueFlp op a).pollCount = a.pollCount := rfl
@[simp] theorem issueFlp_xcvCount (op : FlOp) (a : State) : (issueFlp op a).xcvCount = a.xcvCount := rfl
@[simp] theorem issueFlp_dispCount (op : FlOp) (a : State) : (issueFlp op a).dispCount = a.dispCount := rfl
@[simp] theorem issueFlp_tagUidlen (op : FlOp) (a : State) : (issueFlp op a).tagUidlen = a.tagUidlen := rfl
@[simp] theorem issueFlp_tagUid0 (op : FlOp) (a : State) : (issueFlp op a).tagUid0 = a.tagUid0 := rfl
@[simp] theorem issueFlp_tagUid1 (op : FlOp) (a : State) : (issueFlp op a).tagUid1 = a.tagUid1 := rfl
@[simp] theorem issueFlp_tagUid2 (op : FlOp) (a : State) : (issueFlp op a).tagUid2 = a.tagUid2 := rfl
@[simp] theorem issueFlp_tagData0 (op : FlOp) (a : State) : (issueFlp op a).tagData0 = a.tagData0 := rfl
@[simp] theorem issueFlp_tagData1 (op : FlOp) (a : State) : (issueFlp op a).tagData1 = a.tagData1 := rfl
@[simp] theorem issueFlp_tagData2 (op : FlOp) (a : State) : (issueFlp op a).tagData2 = a.tagData2 := rfl
@[simp] theorem issueFlp_tagData3 (op : FlOp) (a : State) : (issueFlp op a).tagData3 = a.tagData3 := rfl
@[simp] theorem issueFlp_ledger (op : FlOp) (a : State) : (issueFlp op a).ledger = a.ledger := rfl
@[simp] theorem issueFlp_kpState (op : FlOp) (a : State) : (issueFlp op a).kpState = a.kpState := rfl
@[simp] theorem issueFlp_colPrev (op : FlOp) (a : State) : (issueFlp op a).colPrev = a.colPrev := rfl
@[simp] theorem issueFlp_rowPrev (op : FlOp) (a : State) : (issueFlp op a).rowPrev = a.rowPrev := rfl
@[simp] theorem issueFlp_tagState (op : FlOp) (a : State) : (issueFlp op a).tagState = a.tagState := rfl
@[simp] theorem issueFlp_rdPend (op : FlOp) (a : State) : (issueFlp op a).rdPend = a.rdPend := rfl
@[simp] theorem issueFlp_rdIssue (op : FlOp) (a : State) : (issueFlp op a).rdIssue = a.rdIssue := rfl
@[simp] theorem issueFlp_rdOp (op : FlOp) (a : State) : (issueFlp op a).rdOp = a.rdOp := rfl
@[simp] theorem issueFlp_rdAbortQ (op : FlOp) (a : State) : (issueFlp op a).rdAbortQ = a.rdAbortQ := rfl
@[simp] theorem issueFlp_uidSh (op : FlOp) (a : State) : (issueFlp op a).uidSh = a.uidSh := rfl
@[simp] theorem issueFlp_uidlenSh (op : FlOp) (a : State) : (issueFlp op a).uidlenSh = a.uidlenSh := rfl
@[simp] theorem issueFlp_pinPrev (op : FlOp) (a : State) : (issueFlp op a).pinPrev = a.pinPrev := rfl
@[simp] theorem issueFlp_fccState (op : FlOp) (a : State) : (issueFlp op a).fccState = a.fccState := rfl
@[simp] theorem issueFlp_flIssue (op : FlOp) (a : State) : (issueFlp op a).flIssue = true := rfl
@[simp] theorem issueFlp_flOp (op : FlOp) (a : State) : (issueFlp op a).flOp = op := rfl
@[simp] theorem issueFlp_flPend (op : FlOp) (a : State) : (issueFlp op a).flPend = true := rfl
@[simp] theorem issueFlp_presc (op : FlOp) (a : State) : (issueFlp op a).presc = a.presc := rfl
@[simp] theorem issueFlp_busRdata (op : FlOp) (a : State) : (issueFlp op a).busRdata = a.busRdata := rfl
@[simp] theorem issueFlp_busErr (op : FlOp) (a : State) : (issueFlp op a).busErr = a.busErr := rfl
@[simp] theorem issueFlp_flash (op : FlOp) (a : State) : (issueFlp op a).flash = a.flash := rfl
@[simp] theorem issueFlp_freeIdx (op : FlOp) (a : State) : (issueFlp op a).freeIdx = a.freeIdx := rfl
@[simp] theorem issueFlp_inputs (op : FlOp) (a : State) : (issueFlp op a).inputs = a.inputs := rfl
@[simp] theorem issueFlp_params (op : FlOp) (a : State) : (issueFlp op a).params = a.params := rfl

@[simp] theorem startErase_ctrl (a : State) : (startErase a).ctrl = a.ctrl := rfl
@[simp] theorem startErase_sticky (a : State) : (startErase a).sticky = a.sticky := rfl
@[simp] theorem startErase_flags (a : State) : (startErase a).flags = a.flags := rfl
@[simp] theorem startErase_irqEn (a : State) : (startErase a).irqEn = a.irqEn := rfl
@[simp] theorem startErase_keyCode (a : State) : (startErase a).keyCode = a.keyCode := rfl
@[simp] theorem startErase_keyRow (a : State) : (startErase a).keyRow = a.keyRow := rfl
@[simp] theorem startErase_keyCol (a : State) : (startErase a).keyCol = a.keyCol := rfl
@[simp] theorem startErase_tagCause (a : State) : (startErase a).tagCause = a.tagCause := rfl
@[simp] theorem startErase_cmdCause (a : State) : (startErase a).cmdCause = a.cmdCause := rfl
@[simp] theorem startErase_busCause (a : State) : (startErase a).busCause = a.busCause := rfl
@[simp] theorem startErase_dbPeriod (a : State) : (startErase a).dbPeriod = a.dbPeriod := rfl
@[simp] theorem startErase_pollPeriod (a : State) : (startErase a).pollPeriod = a.pollPeriod := rfl
@[simp] theorem startErase_xcvTimeout (a : State) : (startErase a).xcvTimeout = a.xcvTimeout := rfl
@[simp] theorem startErase_dispPeriod (a : State) : (startErase a).dispPeriod = a.dispPeriod := rfl
@[simp] theorem startErase_dbCount (a : State) : (startErase a).dbCount = a.dbCount := rfl
@[simp] theorem startErase_pollCount (a : State) : (startErase a).pollCount = a.pollCount := rfl
@[simp] theorem startErase_xcvCount (a : State) : (startErase a).xcvCount = a.xcvCount := rfl
@[simp] theorem startErase_dispCount (a : State) : (startErase a).dispCount = a.dispCount := rfl
@[simp] theorem startErase_tagUidlen (a : State) : (startErase a).tagUidlen = a.tagUidlen := rfl
@[simp] theorem startErase_tagUid0 (a : State) : (startErase a).tagUid0 = a.tagUid0 := rfl
@[simp] theorem startErase_tagUid1 (a : State) : (startErase a).tagUid1 = a.tagUid1 := rfl
@[simp] theorem startErase_tagUid2 (a : State) : (startErase a).tagUid2 = a.tagUid2 := rfl
@[simp] theorem startErase_tagData0 (a : State) : (startErase a).tagData0 = a.tagData0 := rfl
@[simp] theorem startErase_tagData1 (a : State) : (startErase a).tagData1 = a.tagData1 := rfl
@[simp] theorem startErase_tagData2 (a : State) : (startErase a).tagData2 = a.tagData2 := rfl
@[simp] theorem startErase_tagData3 (a : State) : (startErase a).tagData3 = a.tagData3 := rfl
@[simp] theorem startErase_ledger (a : State) : (startErase a).ledger = a.ledger := rfl
@[simp] theorem startErase_kpState (a : State) : (startErase a).kpState = a.kpState := rfl
@[simp] theorem startErase_colPrev (a : State) : (startErase a).colPrev = a.colPrev := rfl
@[simp] theorem startErase_rowPrev (a : State) : (startErase a).rowPrev = a.rowPrev := rfl
@[simp] theorem startErase_tagState (a : State) : (startErase a).tagState = a.tagState := rfl
@[simp] theorem startErase_rdPend (a : State) : (startErase a).rdPend = a.rdPend := rfl
@[simp] theorem startErase_rdIssue (a : State) : (startErase a).rdIssue = a.rdIssue := rfl
@[simp] theorem startErase_rdOp (a : State) : (startErase a).rdOp = a.rdOp := rfl
@[simp] theorem startErase_rdAbortQ (a : State) : (startErase a).rdAbortQ = a.rdAbortQ := rfl
@[simp] theorem startErase_uidSh (a : State) : (startErase a).uidSh = a.uidSh := rfl
@[simp] theorem startErase_uidlenSh (a : State) : (startErase a).uidlenSh = a.uidlenSh := rfl
@[simp] theorem startErase_pinPrev (a : State) : (startErase a).pinPrev = a.pinPrev := rfl
@[simp] theorem startErase_fccState (a : State) : (startErase a).fccState = .erasing := rfl
@[simp] theorem startErase_flIssue (a : State) : (startErase a).flIssue = true := rfl
@[simp] theorem startErase_flOp (a : State) : (startErase a).flOp = .erase := rfl
@[simp] theorem startErase_flPend (a : State) : (startErase a).flPend = true := rfl
@[simp] theorem startErase_presc (a : State) : (startErase a).presc = a.presc := rfl
@[simp] theorem startErase_busRdata (a : State) : (startErase a).busRdata = a.busRdata := rfl
@[simp] theorem startErase_busErr (a : State) : (startErase a).busErr = a.busErr := rfl
@[simp] theorem startErase_flash (a : State) : (startErase a).flash = a.flash := rfl
@[simp] theorem startErase_freeIdx (a : State) : (startErase a).freeIdx = a.freeIdx := rfl
@[simp] theorem startErase_inputs (a : State) : (startErase a).inputs = a.inputs := rfl
@[simp] theorem startErase_params (a : State) : (startErase a).params = a.params := rfl

@[simp] theorem startProgram_ctrl (a : State) : (startProgram a).ctrl = a.ctrl := rfl
@[simp] theorem startProgram_sticky (a : State) : (startProgram a).sticky = a.sticky := rfl
@[simp] theorem startProgram_flags (a : State) : (startProgram a).flags = a.flags := rfl
@[simp] theorem startProgram_irqEn (a : State) : (startProgram a).irqEn = a.irqEn := rfl
@[simp] theorem startProgram_keyCode (a : State) : (startProgram a).keyCode = a.keyCode := rfl
@[simp] theorem startProgram_keyRow (a : State) : (startProgram a).keyRow = a.keyRow := rfl
@[simp] theorem startProgram_keyCol (a : State) : (startProgram a).keyCol = a.keyCol := rfl
@[simp] theorem startProgram_tagCause (a : State) : (startProgram a).tagCause = a.tagCause := rfl
@[simp] theorem startProgram_cmdCause (a : State) : (startProgram a).cmdCause = a.cmdCause := rfl
@[simp] theorem startProgram_busCause (a : State) : (startProgram a).busCause = a.busCause := rfl
@[simp] theorem startProgram_dbPeriod (a : State) : (startProgram a).dbPeriod = a.dbPeriod := rfl
@[simp] theorem startProgram_pollPeriod (a : State) : (startProgram a).pollPeriod = a.pollPeriod := rfl
@[simp] theorem startProgram_xcvTimeout (a : State) : (startProgram a).xcvTimeout = a.xcvTimeout := rfl
@[simp] theorem startProgram_dispPeriod (a : State) : (startProgram a).dispPeriod = a.dispPeriod := rfl
@[simp] theorem startProgram_dbCount (a : State) : (startProgram a).dbCount = a.dbCount := rfl
@[simp] theorem startProgram_pollCount (a : State) : (startProgram a).pollCount = a.pollCount := rfl
@[simp] theorem startProgram_xcvCount (a : State) : (startProgram a).xcvCount = a.xcvCount := rfl
@[simp] theorem startProgram_dispCount (a : State) : (startProgram a).dispCount = a.dispCount := rfl
@[simp] theorem startProgram_tagUidlen (a : State) : (startProgram a).tagUidlen = a.tagUidlen := rfl
@[simp] theorem startProgram_tagUid0 (a : State) : (startProgram a).tagUid0 = a.tagUid0 := rfl
@[simp] theorem startProgram_tagUid1 (a : State) : (startProgram a).tagUid1 = a.tagUid1 := rfl
@[simp] theorem startProgram_tagUid2 (a : State) : (startProgram a).tagUid2 = a.tagUid2 := rfl
@[simp] theorem startProgram_tagData0 (a : State) : (startProgram a).tagData0 = a.tagData0 := rfl
@[simp] theorem startProgram_tagData1 (a : State) : (startProgram a).tagData1 = a.tagData1 := rfl
@[simp] theorem startProgram_tagData2 (a : State) : (startProgram a).tagData2 = a.tagData2 := rfl
@[simp] theorem startProgram_tagData3 (a : State) : (startProgram a).tagData3 = a.tagData3 := rfl
@[simp] theorem startProgram_ledger (a : State) : (startProgram a).ledger = a.ledger := rfl
@[simp] theorem startProgram_kpState (a : State) : (startProgram a).kpState = a.kpState := rfl
@[simp] theorem startProgram_colPrev (a : State) : (startProgram a).colPrev = a.colPrev := rfl
@[simp] theorem startProgram_rowPrev (a : State) : (startProgram a).rowPrev = a.rowPrev := rfl
@[simp] theorem startProgram_tagState (a : State) : (startProgram a).tagState = a.tagState := rfl
@[simp] theorem startProgram_rdPend (a : State) : (startProgram a).rdPend = a.rdPend := rfl
@[simp] theorem startProgram_rdIssue (a : State) : (startProgram a).rdIssue = a.rdIssue := rfl
@[simp] theorem startProgram_rdOp (a : State) : (startProgram a).rdOp = a.rdOp := rfl
@[simp] theorem startProgram_rdAbortQ (a : State) : (startProgram a).rdAbortQ = a.rdAbortQ := rfl
@[simp] theorem startProgram_uidSh (a : State) : (startProgram a).uidSh = a.uidSh := rfl
@[simp] theorem startProgram_uidlenSh (a : State) : (startProgram a).uidlenSh = a.uidlenSh := rfl
@[simp] theorem startProgram_pinPrev (a : State) : (startProgram a).pinPrev = a.pinPrev := rfl
@[simp] theorem startProgram_fccState (a : State) : (startProgram a).fccState = .programming := rfl
@[simp] theorem startProgram_flIssue (a : State) : (startProgram a).flIssue = true := rfl
@[simp] theorem startProgram_flOp (a : State) : (startProgram a).flOp = .program := rfl
@[simp] theorem startProgram_flPend (a : State) : (startProgram a).flPend = true := rfl
@[simp] theorem startProgram_presc (a : State) : (startProgram a).presc = a.presc := rfl
@[simp] theorem startProgram_busRdata (a : State) : (startProgram a).busRdata = a.busRdata := rfl
@[simp] theorem startProgram_busErr (a : State) : (startProgram a).busErr = a.busErr := rfl
@[simp] theorem startProgram_flash (a : State) : (startProgram a).flash = a.flash := rfl
@[simp] theorem startProgram_freeIdx (a : State) : (startProgram a).freeIdx = a.freeIdx := rfl
@[simp] theorem startProgram_inputs (a : State) : (startProgram a).inputs = a.inputs := rfl
@[simp] theorem startProgram_params (a : State) : (startProgram a).params = a.params := rfl

@[simp] theorem startLoad_ctrl (a : State) : (startLoad a).ctrl = a.ctrl := rfl
@[simp] theorem startLoad_sticky (a : State) : (startLoad a).sticky = a.sticky := rfl
@[simp] theorem startLoad_flags (a : State) : (startLoad a).flags = a.flags := rfl
@[simp] theorem startLoad_irqEn (a : State) : (startLoad a).irqEn = a.irqEn := rfl
@[simp] theorem startLoad_keyCode (a : State) : (startLoad a).keyCode = a.keyCode := rfl
@[simp] theorem startLoad_keyRow (a : State) : (startLoad a).keyRow = a.keyRow := rfl
@[simp] theorem startLoad_keyCol (a : State) : (startLoad a).keyCol = a.keyCol := rfl
@[simp] theorem startLoad_tagCause (a : State) : (startLoad a).tagCause = a.tagCause := rfl
@[simp] theorem startLoad_cmdCause (a : State) : (startLoad a).cmdCause = a.cmdCause := rfl
@[simp] theorem startLoad_busCause (a : State) : (startLoad a).busCause = a.busCause := rfl
@[simp] theorem startLoad_dbPeriod (a : State) : (startLoad a).dbPeriod = a.dbPeriod := rfl
@[simp] theorem startLoad_pollPeriod (a : State) : (startLoad a).pollPeriod = a.pollPeriod := rfl
@[simp] theorem startLoad_xcvTimeout (a : State) : (startLoad a).xcvTimeout = a.xcvTimeout := rfl
@[simp] theorem startLoad_dispPeriod (a : State) : (startLoad a).dispPeriod = a.dispPeriod := rfl
@[simp] theorem startLoad_dbCount (a : State) : (startLoad a).dbCount = a.dbCount := rfl
@[simp] theorem startLoad_pollCount (a : State) : (startLoad a).pollCount = a.pollCount := rfl
@[simp] theorem startLoad_xcvCount (a : State) : (startLoad a).xcvCount = a.xcvCount := rfl
@[simp] theorem startLoad_dispCount (a : State) : (startLoad a).dispCount = a.dispCount := rfl
@[simp] theorem startLoad_tagUidlen (a : State) : (startLoad a).tagUidlen = a.tagUidlen := rfl
@[simp] theorem startLoad_tagUid0 (a : State) : (startLoad a).tagUid0 = a.tagUid0 := rfl
@[simp] theorem startLoad_tagUid1 (a : State) : (startLoad a).tagUid1 = a.tagUid1 := rfl
@[simp] theorem startLoad_tagUid2 (a : State) : (startLoad a).tagUid2 = a.tagUid2 := rfl
@[simp] theorem startLoad_tagData0 (a : State) : (startLoad a).tagData0 = a.tagData0 := rfl
@[simp] theorem startLoad_tagData1 (a : State) : (startLoad a).tagData1 = a.tagData1 := rfl
@[simp] theorem startLoad_tagData2 (a : State) : (startLoad a).tagData2 = a.tagData2 := rfl
@[simp] theorem startLoad_tagData3 (a : State) : (startLoad a).tagData3 = a.tagData3 := rfl
@[simp] theorem startLoad_ledger (a : State) : (startLoad a).ledger = a.ledger := rfl
@[simp] theorem startLoad_kpState (a : State) : (startLoad a).kpState = a.kpState := rfl
@[simp] theorem startLoad_colPrev (a : State) : (startLoad a).colPrev = a.colPrev := rfl
@[simp] theorem startLoad_rowPrev (a : State) : (startLoad a).rowPrev = a.rowPrev := rfl
@[simp] theorem startLoad_tagState (a : State) : (startLoad a).tagState = a.tagState := rfl
@[simp] theorem startLoad_rdPend (a : State) : (startLoad a).rdPend = a.rdPend := rfl
@[simp] theorem startLoad_rdIssue (a : State) : (startLoad a).rdIssue = a.rdIssue := rfl
@[simp] theorem startLoad_rdOp (a : State) : (startLoad a).rdOp = a.rdOp := rfl
@[simp] theorem startLoad_rdAbortQ (a : State) : (startLoad a).rdAbortQ = a.rdAbortQ := rfl
@[simp] theorem startLoad_uidSh (a : State) : (startLoad a).uidSh = a.uidSh := rfl
@[simp] theorem startLoad_uidlenSh (a : State) : (startLoad a).uidlenSh = a.uidlenSh := rfl
@[simp] theorem startLoad_pinPrev (a : State) : (startLoad a).pinPrev = a.pinPrev := rfl
@[simp] theorem startLoad_fccState (a : State) : (startLoad a).fccState = .loading := rfl
@[simp] theorem startLoad_flIssue (a : State) : (startLoad a).flIssue = true := rfl
@[simp] theorem startLoad_flOp (a : State) : (startLoad a).flOp = .read := rfl
@[simp] theorem startLoad_flPend (a : State) : (startLoad a).flPend = true := rfl
@[simp] theorem startLoad_presc (a : State) : (startLoad a).presc = a.presc := rfl
@[simp] theorem startLoad_busRdata (a : State) : (startLoad a).busRdata = a.busRdata := rfl
@[simp] theorem startLoad_busErr (a : State) : (startLoad a).busErr = a.busErr := rfl
@[simp] theorem startLoad_flash (a : State) : (startLoad a).flash = a.flash := rfl
@[simp] theorem startLoad_freeIdx (a : State) : (startLoad a).freeIdx = a.freeIdx := rfl
@[simp] theorem startLoad_inputs (a : State) : (startLoad a).inputs = a.inputs := rfl
@[simp] theorem startLoad_params (a : State) : (startLoad a).params = a.params := rfl

@[simp] theorem fccFinish_ctrl (a : State) : (fccFinish a).ctrl = a.ctrl := rfl
@[simp] theorem fccFinish_sticky (a : State) : (fccFinish a).sticky = a.sticky := rfl
@[simp] theorem fccFinish_flags (a : State) : (fccFinish a).flags = a.flags ||| flagMask .fccDone := rfl
@[simp] theorem fccFinish_irqEn (a : State) : (fccFinish a).irqEn = a.irqEn := rfl
@[simp] theorem fccFinish_keyCode (a : State) : (fccFinish a).keyCode = a.keyCode := rfl
@[simp] theorem fccFinish_keyRow (a : State) : (fccFinish a).keyRow = a.keyRow := rfl
@[simp] theorem fccFinish_keyCol (a : State) : (fccFinish a).keyCol = a.keyCol := rfl
@[simp] theorem fccFinish_tagCause (a : State) : (fccFinish a).tagCause = a.tagCause := rfl
@[simp] theorem fccFinish_cmdCause (a : State) : (fccFinish a).cmdCause = a.cmdCause := rfl
@[simp] theorem fccFinish_busCause (a : State) : (fccFinish a).busCause = a.busCause := rfl
@[simp] theorem fccFinish_dbPeriod (a : State) : (fccFinish a).dbPeriod = a.dbPeriod := rfl
@[simp] theorem fccFinish_pollPeriod (a : State) : (fccFinish a).pollPeriod = a.pollPeriod := rfl
@[simp] theorem fccFinish_xcvTimeout (a : State) : (fccFinish a).xcvTimeout = a.xcvTimeout := rfl
@[simp] theorem fccFinish_dispPeriod (a : State) : (fccFinish a).dispPeriod = a.dispPeriod := rfl
@[simp] theorem fccFinish_dbCount (a : State) : (fccFinish a).dbCount = a.dbCount := rfl
@[simp] theorem fccFinish_pollCount (a : State) : (fccFinish a).pollCount = a.pollCount := rfl
@[simp] theorem fccFinish_xcvCount (a : State) : (fccFinish a).xcvCount = a.xcvCount := rfl
@[simp] theorem fccFinish_dispCount (a : State) : (fccFinish a).dispCount = a.dispCount := rfl
@[simp] theorem fccFinish_tagUidlen (a : State) : (fccFinish a).tagUidlen = a.tagUidlen := rfl
@[simp] theorem fccFinish_tagUid0 (a : State) : (fccFinish a).tagUid0 = a.tagUid0 := rfl
@[simp] theorem fccFinish_tagUid1 (a : State) : (fccFinish a).tagUid1 = a.tagUid1 := rfl
@[simp] theorem fccFinish_tagUid2 (a : State) : (fccFinish a).tagUid2 = a.tagUid2 := rfl
@[simp] theorem fccFinish_tagData0 (a : State) : (fccFinish a).tagData0 = a.tagData0 := rfl
@[simp] theorem fccFinish_tagData1 (a : State) : (fccFinish a).tagData1 = a.tagData1 := rfl
@[simp] theorem fccFinish_tagData2 (a : State) : (fccFinish a).tagData2 = a.tagData2 := rfl
@[simp] theorem fccFinish_tagData3 (a : State) : (fccFinish a).tagData3 = a.tagData3 := rfl
@[simp] theorem fccFinish_ledger (a : State) : (fccFinish a).ledger = a.ledger := rfl
@[simp] theorem fccFinish_kpState (a : State) : (fccFinish a).kpState = a.kpState := rfl
@[simp] theorem fccFinish_colPrev (a : State) : (fccFinish a).colPrev = a.colPrev := rfl
@[simp] theorem fccFinish_rowPrev (a : State) : (fccFinish a).rowPrev = a.rowPrev := rfl
@[simp] theorem fccFinish_tagState (a : State) : (fccFinish a).tagState = a.tagState := rfl
@[simp] theorem fccFinish_rdPend (a : State) : (fccFinish a).rdPend = a.rdPend := rfl
@[simp] theorem fccFinish_rdIssue (a : State) : (fccFinish a).rdIssue = a.rdIssue := rfl
@[simp] theorem fccFinish_rdOp (a : State) : (fccFinish a).rdOp = a.rdOp := rfl
@[simp] theorem fccFinish_rdAbortQ (a : State) : (fccFinish a).rdAbortQ = a.rdAbortQ := rfl
@[simp] theorem fccFinish_uidSh (a : State) : (fccFinish a).uidSh = a.uidSh := rfl
@[simp] theorem fccFinish_uidlenSh (a : State) : (fccFinish a).uidlenSh = a.uidlenSh := rfl
@[simp] theorem fccFinish_pinPrev (a : State) : (fccFinish a).pinPrev = a.pinPrev := rfl
@[simp] theorem fccFinish_fccState (a : State) : (fccFinish a).fccState = .idle := rfl
@[simp] theorem fccFinish_flIssue (a : State) : (fccFinish a).flIssue = a.flIssue := rfl
@[simp] theorem fccFinish_flOp (a : State) : (fccFinish a).flOp = a.flOp := rfl
@[simp] theorem fccFinish_flPend (a : State) : (fccFinish a).flPend = false := rfl
@[simp] theorem fccFinish_presc (a : State) : (fccFinish a).presc = a.presc := rfl
@[simp] theorem fccFinish_busRdata (a : State) : (fccFinish a).busRdata = a.busRdata := rfl
@[simp] theorem fccFinish_busErr (a : State) : (fccFinish a).busErr = a.busErr := rfl
@[simp] theorem fccFinish_flash (a : State) : (fccFinish a).flash = a.flash := rfl
@[simp] theorem fccFinish_freeIdx (a : State) : (fccFinish a).freeIdx = a.freeIdx := rfl
@[simp] theorem fccFinish_inputs (a : State) : (fccFinish a).inputs = a.inputs := rfl
@[simp] theorem fccFinish_params (a : State) : (fccFinish a).params = a.params := rfl

@[simp] theorem sectorErased_ctrl (a : State) : (sectorErased a).ctrl = a.ctrl := rfl
@[simp] theorem sectorErased_sticky (a : State) : (sectorErased a).sticky = a.sticky := rfl
@[simp] theorem sectorErased_flags (a : State) : (sectorErased a).flags = a.flags := rfl
@[simp] theorem sectorErased_irqEn (a : State) : (sectorErased a).irqEn = a.irqEn := rfl
@[simp] theorem sectorErased_keyCode (a : State) : (sectorErased a).keyCode = a.keyCode := rfl
@[simp] theorem sectorErased_keyRow (a : State) : (sectorErased a).keyRow = a.keyRow := rfl
@[simp] theorem sectorErased_keyCol (a : State) : (sectorErased a).keyCol = a.keyCol := rfl
@[simp] theorem sectorErased_tagCause (a : State) : (sectorErased a).tagCause = a.tagCause := rfl
@[simp] theorem sectorErased_cmdCause (a : State) : (sectorErased a).cmdCause = a.cmdCause := rfl
@[simp] theorem sectorErased_busCause (a : State) : (sectorErased a).busCause = a.busCause := rfl
@[simp] theorem sectorErased_dbPeriod (a : State) : (sectorErased a).dbPeriod = a.dbPeriod := rfl
@[simp] theorem sectorErased_pollPeriod (a : State) : (sectorErased a).pollPeriod = a.pollPeriod := rfl
@[simp] theorem sectorErased_xcvTimeout (a : State) : (sectorErased a).xcvTimeout = a.xcvTimeout := rfl
@[simp] theorem sectorErased_dispPeriod (a : State) : (sectorErased a).dispPeriod = a.dispPeriod := rfl
@[simp] theorem sectorErased_dbCount (a : State) : (sectorErased a).dbCount = a.dbCount := rfl
@[simp] theorem sectorErased_pollCount (a : State) : (sectorErased a).pollCount = a.pollCount := rfl
@[simp] theorem sectorErased_xcvCount (a : State) : (sectorErased a).xcvCount = a.xcvCount := rfl
@[simp] theorem sectorErased_dispCount (a : State) : (sectorErased a).dispCount = a.dispCount := rfl
@[simp] theorem sectorErased_tagUidlen (a : State) : (sectorErased a).tagUidlen = a.tagUidlen := rfl
@[simp] theorem sectorErased_tagUid0 (a : State) : (sectorErased a).tagUid0 = a.tagUid0 := rfl
@[simp] theorem sectorErased_tagUid1 (a : State) : (sectorErased a).tagUid1 = a.tagUid1 := rfl
@[simp] theorem sectorErased_tagUid2 (a : State) : (sectorErased a).tagUid2 = a.tagUid2 := rfl
@[simp] theorem sectorErased_tagData0 (a : State) : (sectorErased a).tagData0 = a.tagData0 := rfl
@[simp] theorem sectorErased_tagData1 (a : State) : (sectorErased a).tagData1 = a.tagData1 := rfl
@[simp] theorem sectorErased_tagData2 (a : State) : (sectorErased a).tagData2 = a.tagData2 := rfl
@[simp] theorem sectorErased_tagData3 (a : State) : (sectorErased a).tagData3 = a.tagData3 := rfl
@[simp] theorem sectorErased_ledger (a : State) : (sectorErased a).ledger = a.ledger := rfl
@[simp] theorem sectorErased_kpState (a : State) : (sectorErased a).kpState = a.kpState := rfl
@[simp] theorem sectorErased_colPrev (a : State) : (sectorErased a).colPrev = a.colPrev := rfl
@[simp] theorem sectorErased_rowPrev (a : State) : (sectorErased a).rowPrev = a.rowPrev := rfl
@[simp] theorem sectorErased_tagState (a : State) : (sectorErased a).tagState = a.tagState := rfl
@[simp] theorem sectorErased_rdPend (a : State) : (sectorErased a).rdPend = a.rdPend := rfl
@[simp] theorem sectorErased_rdIssue (a : State) : (sectorErased a).rdIssue = a.rdIssue := rfl
@[simp] theorem sectorErased_rdOp (a : State) : (sectorErased a).rdOp = a.rdOp := rfl
@[simp] theorem sectorErased_rdAbortQ (a : State) : (sectorErased a).rdAbortQ = a.rdAbortQ := rfl
@[simp] theorem sectorErased_uidSh (a : State) : (sectorErased a).uidSh = a.uidSh := rfl
@[simp] theorem sectorErased_uidlenSh (a : State) : (sectorErased a).uidlenSh = a.uidlenSh := rfl
@[simp] theorem sectorErased_pinPrev (a : State) : (sectorErased a).pinPrev = a.pinPrev := rfl
@[simp] theorem sectorErased_fccState (a : State) : (sectorErased a).fccState = a.fccState := rfl
@[simp] theorem sectorErased_flIssue (a : State) : (sectorErased a).flIssue = a.flIssue := rfl
@[simp] theorem sectorErased_flOp (a : State) : (sectorErased a).flOp = a.flOp := rfl
@[simp] theorem sectorErased_flPend (a : State) : (sectorErased a).flPend = a.flPend := rfl
@[simp] theorem sectorErased_presc (a : State) : (sectorErased a).presc = a.presc := rfl
@[simp] theorem sectorErased_busRdata (a : State) : (sectorErased a).busRdata = a.busRdata := rfl
@[simp] theorem sectorErased_busErr (a : State) : (sectorErased a).busErr = a.busErr := rfl
@[simp] theorem sectorErased_flash (a : State) : (sectorErased a).flash = flashErase a.flash (sectorBase a.params) sectorBytes := rfl
@[simp] theorem sectorErased_freeIdx (a : State) : (sectorErased a).freeIdx = a.freeIdx := rfl
@[simp] theorem sectorErased_inputs (a : State) : (sectorErased a).inputs = a.inputs := rfl
@[simp] theorem sectorErased_params (a : State) : (sectorErased a).params = a.params := rfl

@[simp] theorem pageProgrammed_ctrl (a : State) : (pageProgrammed a).ctrl = a.ctrl := rfl
@[simp] theorem pageProgrammed_sticky (a : State) : (pageProgrammed a).sticky = a.sticky := rfl
@[simp] theorem pageProgrammed_flags (a : State) : (pageProgrammed a).flags = a.flags := rfl
@[simp] theorem pageProgrammed_irqEn (a : State) : (pageProgrammed a).irqEn = a.irqEn := rfl
@[simp] theorem pageProgrammed_keyCode (a : State) : (pageProgrammed a).keyCode = a.keyCode := rfl
@[simp] theorem pageProgrammed_keyRow (a : State) : (pageProgrammed a).keyRow = a.keyRow := rfl
@[simp] theorem pageProgrammed_keyCol (a : State) : (pageProgrammed a).keyCol = a.keyCol := rfl
@[simp] theorem pageProgrammed_tagCause (a : State) : (pageProgrammed a).tagCause = a.tagCause := rfl
@[simp] theorem pageProgrammed_cmdCause (a : State) : (pageProgrammed a).cmdCause = a.cmdCause := rfl
@[simp] theorem pageProgrammed_busCause (a : State) : (pageProgrammed a).busCause = a.busCause := rfl
@[simp] theorem pageProgrammed_dbPeriod (a : State) : (pageProgrammed a).dbPeriod = a.dbPeriod := rfl
@[simp] theorem pageProgrammed_pollPeriod (a : State) : (pageProgrammed a).pollPeriod = a.pollPeriod := rfl
@[simp] theorem pageProgrammed_xcvTimeout (a : State) : (pageProgrammed a).xcvTimeout = a.xcvTimeout := rfl
@[simp] theorem pageProgrammed_dispPeriod (a : State) : (pageProgrammed a).dispPeriod = a.dispPeriod := rfl
@[simp] theorem pageProgrammed_dbCount (a : State) : (pageProgrammed a).dbCount = a.dbCount := rfl
@[simp] theorem pageProgrammed_pollCount (a : State) : (pageProgrammed a).pollCount = a.pollCount := rfl
@[simp] theorem pageProgrammed_xcvCount (a : State) : (pageProgrammed a).xcvCount = a.xcvCount := rfl
@[simp] theorem pageProgrammed_dispCount (a : State) : (pageProgrammed a).dispCount = a.dispCount := rfl
@[simp] theorem pageProgrammed_tagUidlen (a : State) : (pageProgrammed a).tagUidlen = a.tagUidlen := rfl
@[simp] theorem pageProgrammed_tagUid0 (a : State) : (pageProgrammed a).tagUid0 = a.tagUid0 := rfl
@[simp] theorem pageProgrammed_tagUid1 (a : State) : (pageProgrammed a).tagUid1 = a.tagUid1 := rfl
@[simp] theorem pageProgrammed_tagUid2 (a : State) : (pageProgrammed a).tagUid2 = a.tagUid2 := rfl
@[simp] theorem pageProgrammed_tagData0 (a : State) : (pageProgrammed a).tagData0 = a.tagData0 := rfl
@[simp] theorem pageProgrammed_tagData1 (a : State) : (pageProgrammed a).tagData1 = a.tagData1 := rfl
@[simp] theorem pageProgrammed_tagData2 (a : State) : (pageProgrammed a).tagData2 = a.tagData2 := rfl
@[simp] theorem pageProgrammed_tagData3 (a : State) : (pageProgrammed a).tagData3 = a.tagData3 := rfl
@[simp] theorem pageProgrammed_ledger (a : State) : (pageProgrammed a).ledger = a.ledger := rfl
@[simp] theorem pageProgrammed_kpState (a : State) : (pageProgrammed a).kpState = a.kpState := rfl
@[simp] theorem pageProgrammed_colPrev (a : State) : (pageProgrammed a).colPrev = a.colPrev := rfl
@[simp] theorem pageProgrammed_rowPrev (a : State) : (pageProgrammed a).rowPrev = a.rowPrev := rfl
@[simp] theorem pageProgrammed_tagState (a : State) : (pageProgrammed a).tagState = a.tagState := rfl
@[simp] theorem pageProgrammed_rdPend (a : State) : (pageProgrammed a).rdPend = a.rdPend := rfl
@[simp] theorem pageProgrammed_rdIssue (a : State) : (pageProgrammed a).rdIssue = a.rdIssue := rfl
@[simp] theorem pageProgrammed_rdOp (a : State) : (pageProgrammed a).rdOp = a.rdOp := rfl
@[simp] theorem pageProgrammed_rdAbortQ (a : State) : (pageProgrammed a).rdAbortQ = a.rdAbortQ := rfl
@[simp] theorem pageProgrammed_uidSh (a : State) : (pageProgrammed a).uidSh = a.uidSh := rfl
@[simp] theorem pageProgrammed_uidlenSh (a : State) : (pageProgrammed a).uidlenSh = a.uidlenSh := rfl
@[simp] theorem pageProgrammed_pinPrev (a : State) : (pageProgrammed a).pinPrev = a.pinPrev := rfl
@[simp] theorem pageProgrammed_fccState (a : State) : (pageProgrammed a).fccState = a.fccState := rfl
@[simp] theorem pageProgrammed_flIssue (a : State) : (pageProgrammed a).flIssue = a.flIssue := rfl
@[simp] theorem pageProgrammed_flOp (a : State) : (pageProgrammed a).flOp = a.flOp := rfl
@[simp] theorem pageProgrammed_flPend (a : State) : (pageProgrammed a).flPend = a.flPend := rfl
@[simp] theorem pageProgrammed_presc (a : State) : (pageProgrammed a).presc = a.presc := rfl
@[simp] theorem pageProgrammed_busRdata (a : State) : (pageProgrammed a).busRdata = a.busRdata := rfl
@[simp] theorem pageProgrammed_busErr (a : State) : (pageProgrammed a).busErr = a.busErr := rfl
@[simp] theorem pageProgrammed_flash (a : State) : (pageProgrammed a).flash = flashWriteBytes a.flash (sectorBase a.params) (pageImage a.ledger) := rfl
@[simp] theorem pageProgrammed_freeIdx (a : State) : (pageProgrammed a).freeIdx = a.freeIdx := rfl
@[simp] theorem pageProgrammed_inputs (a : State) : (pageProgrammed a).inputs = a.inputs := rfl
@[simp] theorem pageProgrammed_params (a : State) : (pageProgrammed a).params = a.params := rfl

@[simp] theorem kpdDisable_ctrl (a : State) : (kpdDisable a).ctrl = a.ctrl := rfl
@[simp] theorem kpdDisable_sticky (a : State) : (kpdDisable a).sticky = a.sticky := rfl
@[simp] theorem kpdDisable_flags (a : State) : (kpdDisable a).flags = a.flags := rfl
@[simp] theorem kpdDisable_irqEn (a : State) : (kpdDisable a).irqEn = a.irqEn := rfl
@[simp] theorem kpdDisable_keyCode (a : State) : (kpdDisable a).keyCode = a.keyCode := rfl
@[simp] theorem kpdDisable_keyRow (a : State) : (kpdDisable a).keyRow = a.keyRow := rfl
@[simp] theorem kpdDisable_keyCol (a : State) : (kpdDisable a).keyCol = a.keyCol := rfl
@[simp] theorem kpdDisable_tagCause (a : State) : (kpdDisable a).tagCause = a.tagCause := rfl
@[simp] theorem kpdDisable_cmdCause (a : State) : (kpdDisable a).cmdCause = a.cmdCause := rfl
@[simp] theorem kpdDisable_busCause (a : State) : (kpdDisable a).busCause = a.busCause := rfl
@[simp] theorem kpdDisable_dbPeriod (a : State) : (kpdDisable a).dbPeriod = a.dbPeriod := rfl
@[simp] theorem kpdDisable_pollPeriod (a : State) : (kpdDisable a).pollPeriod = a.pollPeriod := rfl
@[simp] theorem kpdDisable_xcvTimeout (a : State) : (kpdDisable a).xcvTimeout = a.xcvTimeout := rfl
@[simp] theorem kpdDisable_dispPeriod (a : State) : (kpdDisable a).dispPeriod = a.dispPeriod := rfl
@[simp] theorem kpdDisable_dbCount (a : State) : (kpdDisable a).dbCount = 0 := rfl
@[simp] theorem kpdDisable_pollCount (a : State) : (kpdDisable a).pollCount = a.pollCount := rfl
@[simp] theorem kpdDisable_xcvCount (a : State) : (kpdDisable a).xcvCount = a.xcvCount := rfl
@[simp] theorem kpdDisable_dispCount (a : State) : (kpdDisable a).dispCount = a.dispCount := rfl
@[simp] theorem kpdDisable_tagUidlen (a : State) : (kpdDisable a).tagUidlen = a.tagUidlen := rfl
@[simp] theorem kpdDisable_tagUid0 (a : State) : (kpdDisable a).tagUid0 = a.tagUid0 := rfl
@[simp] theorem kpdDisable_tagUid1 (a : State) : (kpdDisable a).tagUid1 = a.tagUid1 := rfl
@[simp] theorem kpdDisable_tagUid2 (a : State) : (kpdDisable a).tagUid2 = a.tagUid2 := rfl
@[simp] theorem kpdDisable_tagData0 (a : State) : (kpdDisable a).tagData0 = a.tagData0 := rfl
@[simp] theorem kpdDisable_tagData1 (a : State) : (kpdDisable a).tagData1 = a.tagData1 := rfl
@[simp] theorem kpdDisable_tagData2 (a : State) : (kpdDisable a).tagData2 = a.tagData2 := rfl
@[simp] theorem kpdDisable_tagData3 (a : State) : (kpdDisable a).tagData3 = a.tagData3 := rfl
@[simp] theorem kpdDisable_ledger (a : State) : (kpdDisable a).ledger = a.ledger := rfl
@[simp] theorem kpdDisable_kpState (a : State) : (kpdDisable a).kpState = .disabled := rfl
@[simp] theorem kpdDisable_colPrev (a : State) : (kpdDisable a).colPrev = a.colPrev := rfl
@[simp] theorem kpdDisable_rowPrev (a : State) : (kpdDisable a).rowPrev = a.rowPrev := rfl
@[simp] theorem kpdDisable_tagState (a : State) : (kpdDisable a).tagState = a.tagState := rfl
@[simp] theorem kpdDisable_rdPend (a : State) : (kpdDisable a).rdPend = a.rdPend := rfl
@[simp] theorem kpdDisable_rdIssue (a : State) : (kpdDisable a).rdIssue = a.rdIssue := rfl
@[simp] theorem kpdDisable_rdOp (a : State) : (kpdDisable a).rdOp = a.rdOp := rfl
@[simp] theorem kpdDisable_rdAbortQ (a : State) : (kpdDisable a).rdAbortQ = a.rdAbortQ := rfl
@[simp] theorem kpdDisable_uidSh (a : State) : (kpdDisable a).uidSh = a.uidSh := rfl
@[simp] theorem kpdDisable_uidlenSh (a : State) : (kpdDisable a).uidlenSh = a.uidlenSh := rfl
@[simp] theorem kpdDisable_pinPrev (a : State) : (kpdDisable a).pinPrev = a.pinPrev := rfl
@[simp] theorem kpdDisable_fccState (a : State) : (kpdDisable a).fccState = a.fccState := rfl
@[simp] theorem kpdDisable_flIssue (a : State) : (kpdDisable a).flIssue = a.flIssue := rfl
@[simp] theorem kpdDisable_flOp (a : State) : (kpdDisable a).flOp = a.flOp := rfl
@[simp] theorem kpdDisable_flPend (a : State) : (kpdDisable a).flPend = a.flPend := rfl
@[simp] theorem kpdDisable_presc (a : State) : (kpdDisable a).presc = a.presc := rfl
@[simp] theorem kpdDisable_busRdata (a : State) : (kpdDisable a).busRdata = a.busRdata := rfl
@[simp] theorem kpdDisable_busErr (a : State) : (kpdDisable a).busErr = a.busErr := rfl
@[simp] theorem kpdDisable_flash (a : State) : (kpdDisable a).flash = a.flash := rfl
@[simp] theorem kpdDisable_freeIdx (a : State) : (kpdDisable a).freeIdx = a.freeIdx := rfl
@[simp] theorem kpdDisable_inputs (a : State) : (kpdDisable a).inputs = a.inputs := rfl
@[simp] theorem kpdDisable_params (a : State) : (kpdDisable a).params = a.params := rfl

@[simp] theorem captureKey_ctrl (c : BitVec 4) (S a : State) : (captureKey c S a).ctrl = a.ctrl := rfl
@[simp] theorem captureKey_sticky (c : BitVec 4) (S a : State) : (captureKey c S a).sticky = a.sticky := rfl
@[simp] theorem captureKey_flags (c : BitVec 4) (S a : State) : (captureKey c S a).flags = a.flags := rfl
@[simp] theorem captureKey_irqEn (c : BitVec 4) (S a : State) : (captureKey c S a).irqEn = a.irqEn := rfl
@[simp] theorem captureKey_keyCode (c : BitVec 4) (S a : State) : (captureKey c S a).keyCode = c := rfl
@[simp] theorem captureKey_keyRow (c : BitVec 4) (S a : State) : (captureKey c S a).keyRow = (input S).kpRow := rfl
@[simp] theorem captureKey_keyCol (c : BitVec 4) (S a : State) : (captureKey c S a).keyCol = (input S).kpCol := rfl
@[simp] theorem captureKey_tagCause (c : BitVec 4) (S a : State) : (captureKey c S a).tagCause = a.tagCause := rfl
@[simp] theorem captureKey_cmdCause (c : BitVec 4) (S a : State) : (captureKey c S a).cmdCause = a.cmdCause := rfl
@[simp] theorem captureKey_busCause (c : BitVec 4) (S a : State) : (captureKey c S a).busCause = a.busCause := rfl
@[simp] theorem captureKey_dbPeriod (c : BitVec 4) (S a : State) : (captureKey c S a).dbPeriod = a.dbPeriod := rfl
@[simp] theorem captureKey_pollPeriod (c : BitVec 4) (S a : State) : (captureKey c S a).pollPeriod = a.pollPeriod := rfl
@[simp] theorem captureKey_xcvTimeout (c : BitVec 4) (S a : State) : (captureKey c S a).xcvTimeout = a.xcvTimeout := rfl
@[simp] theorem captureKey_dispPeriod (c : BitVec 4) (S a : State) : (captureKey c S a).dispPeriod = a.dispPeriod := rfl
@[simp] theorem captureKey_dbCount (c : BitVec 4) (S a : State) : (captureKey c S a).dbCount = load S.dbPeriod := rfl
@[simp] theorem captureKey_pollCount (c : BitVec 4) (S a : State) : (captureKey c S a).pollCount = a.pollCount := rfl
@[simp] theorem captureKey_xcvCount (c : BitVec 4) (S a : State) : (captureKey c S a).xcvCount = a.xcvCount := rfl
@[simp] theorem captureKey_dispCount (c : BitVec 4) (S a : State) : (captureKey c S a).dispCount = a.dispCount := rfl
@[simp] theorem captureKey_tagUidlen (c : BitVec 4) (S a : State) : (captureKey c S a).tagUidlen = a.tagUidlen := rfl
@[simp] theorem captureKey_tagUid0 (c : BitVec 4) (S a : State) : (captureKey c S a).tagUid0 = a.tagUid0 := rfl
@[simp] theorem captureKey_tagUid1 (c : BitVec 4) (S a : State) : (captureKey c S a).tagUid1 = a.tagUid1 := rfl
@[simp] theorem captureKey_tagUid2 (c : BitVec 4) (S a : State) : (captureKey c S a).tagUid2 = a.tagUid2 := rfl
@[simp] theorem captureKey_tagData0 (c : BitVec 4) (S a : State) : (captureKey c S a).tagData0 = a.tagData0 := rfl
@[simp] theorem captureKey_tagData1 (c : BitVec 4) (S a : State) : (captureKey c S a).tagData1 = a.tagData1 := rfl
@[simp] theorem captureKey_tagData2 (c : BitVec 4) (S a : State) : (captureKey c S a).tagData2 = a.tagData2 := rfl
@[simp] theorem captureKey_tagData3 (c : BitVec 4) (S a : State) : (captureKey c S a).tagData3 = a.tagData3 := rfl
@[simp] theorem captureKey_ledger (c : BitVec 4) (S a : State) : (captureKey c S a).ledger = a.ledger := rfl
@[simp] theorem captureKey_kpState (c : BitVec 4) (S a : State) : (captureKey c S a).kpState = .rowsArmed := rfl
@[simp] theorem captureKey_colPrev (c : BitVec 4) (S a : State) : (captureKey c S a).colPrev = a.colPrev := rfl
@[simp] theorem captureKey_rowPrev (c : BitVec 4) (S a : State) : (captureKey c S a).rowPrev = a.rowPrev := rfl
@[simp] theorem captureKey_tagState (c : BitVec 4) (S a : State) : (captureKey c S a).tagState = a.tagState := rfl
@[simp] theorem captureKey_rdPend (c : BitVec 4) (S a : State) : (captureKey c S a).rdPend = a.rdPend := rfl
@[simp] theorem captureKey_rdIssue (c : BitVec 4) (S a : State) : (captureKey c S a).rdIssue = a.rdIssue := rfl
@[simp] theorem captureKey_rdOp (c : BitVec 4) (S a : State) : (captureKey c S a).rdOp = a.rdOp := rfl
@[simp] theorem captureKey_rdAbortQ (c : BitVec 4) (S a : State) : (captureKey c S a).rdAbortQ = a.rdAbortQ := rfl
@[simp] theorem captureKey_uidSh (c : BitVec 4) (S a : State) : (captureKey c S a).uidSh = a.uidSh := rfl
@[simp] theorem captureKey_uidlenSh (c : BitVec 4) (S a : State) : (captureKey c S a).uidlenSh = a.uidlenSh := rfl
@[simp] theorem captureKey_pinPrev (c : BitVec 4) (S a : State) : (captureKey c S a).pinPrev = a.pinPrev := rfl
@[simp] theorem captureKey_fccState (c : BitVec 4) (S a : State) : (captureKey c S a).fccState = a.fccState := rfl
@[simp] theorem captureKey_flIssue (c : BitVec 4) (S a : State) : (captureKey c S a).flIssue = a.flIssue := rfl
@[simp] theorem captureKey_flOp (c : BitVec 4) (S a : State) : (captureKey c S a).flOp = a.flOp := rfl
@[simp] theorem captureKey_flPend (c : BitVec 4) (S a : State) : (captureKey c S a).flPend = a.flPend := rfl
@[simp] theorem captureKey_presc (c : BitVec 4) (S a : State) : (captureKey c S a).presc = a.presc := rfl
@[simp] theorem captureKey_busRdata (c : BitVec 4) (S a : State) : (captureKey c S a).busRdata = a.busRdata := rfl
@[simp] theorem captureKey_busErr (c : BitVec 4) (S a : State) : (captureKey c S a).busErr = a.busErr := rfl
@[simp] theorem captureKey_flash (c : BitVec 4) (S a : State) : (captureKey c S a).flash = a.flash := rfl
@[simp] theorem captureKey_freeIdx (c : BitVec 4) (S a : State) : (captureKey c S a).freeIdx = a.freeIdx := rfl
@[simp] theorem captureKey_inputs (c : BitVec 4) (S a : State) : (captureKey c S a).inputs = a.inputs := rfl
@[simp] theorem captureKey_params (c : BitVec 4) (S a : State) : (captureKey c S a).params = a.params := rfl

@[simp] theorem kpdFinalize_ctrl (a : State) : (kpdFinalize a).ctrl = a.ctrl := rfl
@[simp] theorem kpdFinalize_sticky (a : State) : (kpdFinalize a).sticky = a.sticky := rfl
@[simp] theorem kpdFinalize_flags (a : State) : (kpdFinalize a).flags = a.flags ||| flagMask .keyReady := rfl
@[simp] theorem kpdFinalize_irqEn (a : State) : (kpdFinalize a).irqEn = a.irqEn := rfl
@[simp] theorem kpdFinalize_keyCode (a : State) : (kpdFinalize a).keyCode = a.keyCode := rfl
@[simp] theorem kpdFinalize_keyRow (a : State) : (kpdFinalize a).keyRow = a.keyRow := rfl
@[simp] theorem kpdFinalize_keyCol (a : State) : (kpdFinalize a).keyCol = a.keyCol := rfl
@[simp] theorem kpdFinalize_tagCause (a : State) : (kpdFinalize a).tagCause = a.tagCause := rfl
@[simp] theorem kpdFinalize_cmdCause (a : State) : (kpdFinalize a).cmdCause = a.cmdCause := rfl
@[simp] theorem kpdFinalize_busCause (a : State) : (kpdFinalize a).busCause = a.busCause := rfl
@[simp] theorem kpdFinalize_dbPeriod (a : State) : (kpdFinalize a).dbPeriod = a.dbPeriod := rfl
@[simp] theorem kpdFinalize_pollPeriod (a : State) : (kpdFinalize a).pollPeriod = a.pollPeriod := rfl
@[simp] theorem kpdFinalize_xcvTimeout (a : State) : (kpdFinalize a).xcvTimeout = a.xcvTimeout := rfl
@[simp] theorem kpdFinalize_dispPeriod (a : State) : (kpdFinalize a).dispPeriod = a.dispPeriod := rfl
@[simp] theorem kpdFinalize_dbCount (a : State) : (kpdFinalize a).dbCount = 0 := rfl
@[simp] theorem kpdFinalize_pollCount (a : State) : (kpdFinalize a).pollCount = a.pollCount := rfl
@[simp] theorem kpdFinalize_xcvCount (a : State) : (kpdFinalize a).xcvCount = a.xcvCount := rfl
@[simp] theorem kpdFinalize_dispCount (a : State) : (kpdFinalize a).dispCount = a.dispCount := rfl
@[simp] theorem kpdFinalize_tagUidlen (a : State) : (kpdFinalize a).tagUidlen = a.tagUidlen := rfl
@[simp] theorem kpdFinalize_tagUid0 (a : State) : (kpdFinalize a).tagUid0 = a.tagUid0 := rfl
@[simp] theorem kpdFinalize_tagUid1 (a : State) : (kpdFinalize a).tagUid1 = a.tagUid1 := rfl
@[simp] theorem kpdFinalize_tagUid2 (a : State) : (kpdFinalize a).tagUid2 = a.tagUid2 := rfl
@[simp] theorem kpdFinalize_tagData0 (a : State) : (kpdFinalize a).tagData0 = a.tagData0 := rfl
@[simp] theorem kpdFinalize_tagData1 (a : State) : (kpdFinalize a).tagData1 = a.tagData1 := rfl
@[simp] theorem kpdFinalize_tagData2 (a : State) : (kpdFinalize a).tagData2 = a.tagData2 := rfl
@[simp] theorem kpdFinalize_tagData3 (a : State) : (kpdFinalize a).tagData3 = a.tagData3 := rfl
@[simp] theorem kpdFinalize_ledger (a : State) : (kpdFinalize a).ledger = a.ledger := rfl
@[simp] theorem kpdFinalize_kpState (a : State) : (kpdFinalize a).kpState = .colsArmed := rfl
@[simp] theorem kpdFinalize_colPrev (a : State) : (kpdFinalize a).colPrev = a.colPrev := rfl
@[simp] theorem kpdFinalize_rowPrev (a : State) : (kpdFinalize a).rowPrev = a.rowPrev := rfl
@[simp] theorem kpdFinalize_tagState (a : State) : (kpdFinalize a).tagState = a.tagState := rfl
@[simp] theorem kpdFinalize_rdPend (a : State) : (kpdFinalize a).rdPend = a.rdPend := rfl
@[simp] theorem kpdFinalize_rdIssue (a : State) : (kpdFinalize a).rdIssue = a.rdIssue := rfl
@[simp] theorem kpdFinalize_rdOp (a : State) : (kpdFinalize a).rdOp = a.rdOp := rfl
@[simp] theorem kpdFinalize_rdAbortQ (a : State) : (kpdFinalize a).rdAbortQ = a.rdAbortQ := rfl
@[simp] theorem kpdFinalize_uidSh (a : State) : (kpdFinalize a).uidSh = a.uidSh := rfl
@[simp] theorem kpdFinalize_uidlenSh (a : State) : (kpdFinalize a).uidlenSh = a.uidlenSh := rfl
@[simp] theorem kpdFinalize_pinPrev (a : State) : (kpdFinalize a).pinPrev = a.pinPrev := rfl
@[simp] theorem kpdFinalize_fccState (a : State) : (kpdFinalize a).fccState = a.fccState := rfl
@[simp] theorem kpdFinalize_flIssue (a : State) : (kpdFinalize a).flIssue = a.flIssue := rfl
@[simp] theorem kpdFinalize_flOp (a : State) : (kpdFinalize a).flOp = a.flOp := rfl
@[simp] theorem kpdFinalize_flPend (a : State) : (kpdFinalize a).flPend = a.flPend := rfl
@[simp] theorem kpdFinalize_presc (a : State) : (kpdFinalize a).presc = a.presc := rfl
@[simp] theorem kpdFinalize_busRdata (a : State) : (kpdFinalize a).busRdata = a.busRdata := rfl
@[simp] theorem kpdFinalize_busErr (a : State) : (kpdFinalize a).busErr = a.busErr := rfl
@[simp] theorem kpdFinalize_flash (a : State) : (kpdFinalize a).flash = a.flash := rfl
@[simp] theorem kpdFinalize_freeIdx (a : State) : (kpdFinalize a).freeIdx = a.freeIdx := rfl
@[simp] theorem kpdFinalize_inputs (a : State) : (kpdFinalize a).inputs = a.inputs := rfl
@[simp] theorem kpdFinalize_params (a : State) : (kpdFinalize a).params = a.params := rfl

@[simp] theorem tagDisable_ctrl (S a : State) : (tagDisable S a).ctrl = a.ctrl := rfl
@[simp] theorem tagDisable_sticky (S a : State) : (tagDisable S a).sticky = a.sticky := rfl
@[simp] theorem tagDisable_flags (S a : State) : (tagDisable S a).flags = a.flags := rfl
@[simp] theorem tagDisable_irqEn (S a : State) : (tagDisable S a).irqEn = a.irqEn := rfl
@[simp] theorem tagDisable_keyCode (S a : State) : (tagDisable S a).keyCode = a.keyCode := rfl
@[simp] theorem tagDisable_keyRow (S a : State) : (tagDisable S a).keyRow = a.keyRow := rfl
@[simp] theorem tagDisable_keyCol (S a : State) : (tagDisable S a).keyCol = a.keyCol := rfl
@[simp] theorem tagDisable_tagCause (S a : State) : (tagDisable S a).tagCause = a.tagCause := rfl
@[simp] theorem tagDisable_cmdCause (S a : State) : (tagDisable S a).cmdCause = a.cmdCause := rfl
@[simp] theorem tagDisable_busCause (S a : State) : (tagDisable S a).busCause = a.busCause := rfl
@[simp] theorem tagDisable_dbPeriod (S a : State) : (tagDisable S a).dbPeriod = a.dbPeriod := rfl
@[simp] theorem tagDisable_pollPeriod (S a : State) : (tagDisable S a).pollPeriod = a.pollPeriod := rfl
@[simp] theorem tagDisable_xcvTimeout (S a : State) : (tagDisable S a).xcvTimeout = a.xcvTimeout := rfl
@[simp] theorem tagDisable_dispPeriod (S a : State) : (tagDisable S a).dispPeriod = a.dispPeriod := rfl
@[simp] theorem tagDisable_dbCount (S a : State) : (tagDisable S a).dbCount = a.dbCount := rfl
@[simp] theorem tagDisable_pollCount (S a : State) : (tagDisable S a).pollCount = 0 := rfl
@[simp] theorem tagDisable_xcvCount (S a : State) : (tagDisable S a).xcvCount = 0 := rfl
@[simp] theorem tagDisable_dispCount (S a : State) : (tagDisable S a).dispCount = a.dispCount := rfl
@[simp] theorem tagDisable_tagUidlen (S a : State) : (tagDisable S a).tagUidlen = a.tagUidlen := rfl
@[simp] theorem tagDisable_tagUid0 (S a : State) : (tagDisable S a).tagUid0 = a.tagUid0 := rfl
@[simp] theorem tagDisable_tagUid1 (S a : State) : (tagDisable S a).tagUid1 = a.tagUid1 := rfl
@[simp] theorem tagDisable_tagUid2 (S a : State) : (tagDisable S a).tagUid2 = a.tagUid2 := rfl
@[simp] theorem tagDisable_tagData0 (S a : State) : (tagDisable S a).tagData0 = a.tagData0 := rfl
@[simp] theorem tagDisable_tagData1 (S a : State) : (tagDisable S a).tagData1 = a.tagData1 := rfl
@[simp] theorem tagDisable_tagData2 (S a : State) : (tagDisable S a).tagData2 = a.tagData2 := rfl
@[simp] theorem tagDisable_tagData3 (S a : State) : (tagDisable S a).tagData3 = a.tagData3 := rfl
@[simp] theorem tagDisable_ledger (S a : State) : (tagDisable S a).ledger = a.ledger := rfl
@[simp] theorem tagDisable_kpState (S a : State) : (tagDisable S a).kpState = a.kpState := rfl
@[simp] theorem tagDisable_colPrev (S a : State) : (tagDisable S a).colPrev = a.colPrev := rfl
@[simp] theorem tagDisable_rowPrev (S a : State) : (tagDisable S a).rowPrev = a.rowPrev := rfl
@[simp] theorem tagDisable_tagState (S a : State) : (tagDisable S a).tagState = .idle := rfl
@[simp] theorem tagDisable_rdPend (S a : State) : (tagDisable S a).rdPend = false := rfl
@[simp] theorem tagDisable_rdIssue (S a : State) : (tagDisable S a).rdIssue = a.rdIssue := rfl
@[simp] theorem tagDisable_rdOp (S a : State) : (tagDisable S a).rdOp = a.rdOp := rfl
@[simp] theorem tagDisable_rdAbortQ (S a : State) : (tagDisable S a).rdAbortQ = S.rdPend := rfl
@[simp] theorem tagDisable_uidSh (S a : State) : (tagDisable S a).uidSh = a.uidSh := rfl
@[simp] theorem tagDisable_uidlenSh (S a : State) : (tagDisable S a).uidlenSh = a.uidlenSh := rfl
@[simp] theorem tagDisable_pinPrev (S a : State) : (tagDisable S a).pinPrev = a.pinPrev := rfl
@[simp] theorem tagDisable_fccState (S a : State) : (tagDisable S a).fccState = a.fccState := rfl
@[simp] theorem tagDisable_flIssue (S a : State) : (tagDisable S a).flIssue = a.flIssue := rfl
@[simp] theorem tagDisable_flOp (S a : State) : (tagDisable S a).flOp = a.flOp := rfl
@[simp] theorem tagDisable_flPend (S a : State) : (tagDisable S a).flPend = a.flPend := rfl
@[simp] theorem tagDisable_presc (S a : State) : (tagDisable S a).presc = a.presc := rfl
@[simp] theorem tagDisable_busRdata (S a : State) : (tagDisable S a).busRdata = a.busRdata := rfl
@[simp] theorem tagDisable_busErr (S a : State) : (tagDisable S a).busErr = a.busErr := rfl
@[simp] theorem tagDisable_flash (S a : State) : (tagDisable S a).flash = a.flash := rfl
@[simp] theorem tagDisable_freeIdx (S a : State) : (tagDisable S a).freeIdx = a.freeIdx := rfl
@[simp] theorem tagDisable_inputs (S a : State) : (tagDisable S a).inputs = a.inputs := rfl
@[simp] theorem tagDisable_params (S a : State) : (tagDisable S a).params = a.params := rfl

@[simp] theorem startPoll_ctrl (S a : State) : (startPoll S a).ctrl = a.ctrl := rfl
@[simp] theorem startPoll_sticky (S a : State) : (startPoll S a).sticky = a.sticky := rfl
@[simp] theorem startPoll_flags (S a : State) : (startPoll S a).flags = a.flags := rfl
@[simp] theorem startPoll_irqEn (S a : State) : (startPoll S a).irqEn = a.irqEn := rfl
@[simp] theorem startPoll_keyCode (S a : State) : (startPoll S a).keyCode = a.keyCode := rfl
@[simp] theorem startPoll_keyRow (S a : State) : (startPoll S a).keyRow = a.keyRow := rfl
@[simp] theorem startPoll_keyCol (S a : State) : (startPoll S a).keyCol = a.keyCol := rfl
@[simp] theorem startPoll_tagCause (S a : State) : (startPoll S a).tagCause = a.tagCause := rfl
@[simp] theorem startPoll_cmdCause (S a : State) : (startPoll S a).cmdCause = a.cmdCause := rfl
@[simp] theorem startPoll_busCause (S a : State) : (startPoll S a).busCause = a.busCause := rfl
@[simp] theorem startPoll_dbPeriod (S a : State) : (startPoll S a).dbPeriod = a.dbPeriod := rfl
@[simp] theorem startPoll_pollPeriod (S a : State) : (startPoll S a).pollPeriod = a.pollPeriod := rfl
@[simp] theorem startPoll_xcvTimeout (S a : State) : (startPoll S a).xcvTimeout = a.xcvTimeout := rfl
@[simp] theorem startPoll_dispPeriod (S a : State) : (startPoll S a).dispPeriod = a.dispPeriod := rfl
@[simp] theorem startPoll_dbCount (S a : State) : (startPoll S a).dbCount = a.dbCount := rfl
@[simp] theorem startPoll_pollCount (S a : State) : (startPoll S a).pollCount = a.pollCount := rfl
@[simp] theorem startPoll_xcvCount (S a : State) : (startPoll S a).xcvCount = load S.xcvTimeout := rfl
@[simp] theorem startPoll_dispCount (S a : State) : (startPoll S a).dispCount = a.dispCount := rfl
@[simp] theorem startPoll_tagUidlen (S a : State) : (startPoll S a).tagUidlen = a.tagUidlen := rfl
@[simp] theorem startPoll_tagUid0 (S a : State) : (startPoll S a).tagUid0 = a.tagUid0 := rfl
@[simp] theorem startPoll_tagUid1 (S a : State) : (startPoll S a).tagUid1 = a.tagUid1 := rfl
@[simp] theorem startPoll_tagUid2 (S a : State) : (startPoll S a).tagUid2 = a.tagUid2 := rfl
@[simp] theorem startPoll_tagData0 (S a : State) : (startPoll S a).tagData0 = a.tagData0 := rfl
@[simp] theorem startPoll_tagData1 (S a : State) : (startPoll S a).tagData1 = a.tagData1 := rfl
@[simp] theorem startPoll_tagData2 (S a : State) : (startPoll S a).tagData2 = a.tagData2 := rfl
@[simp] theorem startPoll_tagData3 (S a : State) : (startPoll S a).tagData3 = a.tagData3 := rfl
@[simp] theorem startPoll_ledger (S a : State) : (startPoll S a).ledger = a.ledger := rfl
@[simp] theorem startPoll_kpState (S a : State) : (startPoll S a).kpState = a.kpState := rfl
@[simp] theorem startPoll_colPrev (S a : State) : (startPoll S a).colPrev = a.colPrev := rfl
@[simp] theorem startPoll_rowPrev (S a : State) : (startPoll S a).rowPrev = a.rowPrev := rfl
@[simp] theorem startPoll_tagState (S a : State) : (startPoll S a).tagState = a.tagState := rfl
@[simp] theorem startPoll_rdPend (S a : State) : (startPoll S a).rdPend = true := rfl
@[simp] theorem startPoll_rdIssue (S a : State) : (startPoll S a).rdIssue = true := rfl
@[simp] theorem startPoll_rdOp (S a : State) : (startPoll S a).rdOp = .poll := rfl
@[simp] theorem startPoll_rdAbortQ (S a : State) : (startPoll S a).rdAbortQ = a.rdAbortQ := rfl
@[simp] theorem startPoll_uidSh (S a : State) : (startPoll S a).uidSh = a.uidSh := rfl
@[simp] theorem startPoll_uidlenSh (S a : State) : (startPoll S a).uidlenSh = a.uidlenSh := rfl
@[simp] theorem startPoll_pinPrev (S a : State) : (startPoll S a).pinPrev = a.pinPrev := rfl
@[simp] theorem startPoll_fccState (S a : State) : (startPoll S a).fccState = a.fccState := rfl
@[simp] theorem startPoll_flIssue (S a : State) : (startPoll S a).flIssue = a.flIssue := rfl
@[simp] theorem startPoll_flOp (S a : State) : (startPoll S a).flOp = a.flOp := rfl
@[simp] theorem startPoll_flPend (S a : State) : (startPoll S a).flPend = a.flPend := rfl
@[simp] theorem startPoll_presc (S a : State) : (startPoll S a).presc = a.presc := rfl
@[simp] theorem startPoll_busRdata (S a : State) : (startPoll S a).busRdata = a.busRdata := rfl
@[simp] theorem startPoll_busErr (S a : State) : (startPoll S a).busErr = a.busErr := rfl
@[simp] theorem startPoll_flash (S a : State) : (startPoll S a).flash = a.flash := rfl
@[simp] theorem startPoll_freeIdx (S a : State) : (startPoll S a).freeIdx = a.freeIdx := rfl
@[simp] theorem startPoll_inputs (S a : State) : (startPoll S a).inputs = a.inputs := rfl
@[simp] theorem startPoll_params (S a : State) : (startPoll S a).params = a.params := rfl

@[simp] theorem startAuth_ctrl (S a : State) : (startAuth S a).ctrl = a.ctrl := rfl
@[simp] theorem startAuth_sticky (S a : State) : (startAuth S a).sticky = a.sticky := rfl
@[simp] theorem startAuth_flags (S a : State) : (startAuth S a).flags = a.flags := rfl
@[simp] theorem startAuth_irqEn (S a : State) : (startAuth S a).irqEn = a.irqEn := rfl
@[simp] theorem startAuth_keyCode (S a : State) : (startAuth S a).keyCode = a.keyCode := rfl
@[simp] theorem startAuth_keyRow (S a : State) : (startAuth S a).keyRow = a.keyRow := rfl
@[simp] theorem startAuth_keyCol (S a : State) : (startAuth S a).keyCol = a.keyCol := rfl
@[simp] theorem startAuth_tagCause (S a : State) : (startAuth S a).tagCause = a.tagCause := rfl
@[simp] theorem startAuth_cmdCause (S a : State) : (startAuth S a).cmdCause = a.cmdCause := rfl
@[simp] theorem startAuth_busCause (S a : State) : (startAuth S a).busCause = a.busCause := rfl
@[simp] theorem startAuth_dbPeriod (S a : State) : (startAuth S a).dbPeriod = a.dbPeriod := rfl
@[simp] theorem startAuth_pollPeriod (S a : State) : (startAuth S a).pollPeriod = a.pollPeriod := rfl
@[simp] theorem startAuth_xcvTimeout (S a : State) : (startAuth S a).xcvTimeout = a.xcvTimeout := rfl
@[simp] theorem startAuth_dispPeriod (S a : State) : (startAuth S a).dispPeriod = a.dispPeriod := rfl
@[simp] theorem startAuth_dbCount (S a : State) : (startAuth S a).dbCount = a.dbCount := rfl
@[simp] theorem startAuth_pollCount (S a : State) : (startAuth S a).pollCount = a.pollCount := rfl
@[simp] theorem startAuth_xcvCount (S a : State) : (startAuth S a).xcvCount = load S.xcvTimeout := rfl
@[simp] theorem startAuth_dispCount (S a : State) : (startAuth S a).dispCount = a.dispCount := rfl
@[simp] theorem startAuth_tagUidlen (S a : State) : (startAuth S a).tagUidlen = a.tagUidlen := rfl
@[simp] theorem startAuth_tagUid0 (S a : State) : (startAuth S a).tagUid0 = a.tagUid0 := rfl
@[simp] theorem startAuth_tagUid1 (S a : State) : (startAuth S a).tagUid1 = a.tagUid1 := rfl
@[simp] theorem startAuth_tagUid2 (S a : State) : (startAuth S a).tagUid2 = a.tagUid2 := rfl
@[simp] theorem startAuth_tagData0 (S a : State) : (startAuth S a).tagData0 = a.tagData0 := rfl
@[simp] theorem startAuth_tagData1 (S a : State) : (startAuth S a).tagData1 = a.tagData1 := rfl
@[simp] theorem startAuth_tagData2 (S a : State) : (startAuth S a).tagData2 = a.tagData2 := rfl
@[simp] theorem startAuth_tagData3 (S a : State) : (startAuth S a).tagData3 = a.tagData3 := rfl
@[simp] theorem startAuth_ledger (S a : State) : (startAuth S a).ledger = a.ledger := rfl
@[simp] theorem startAuth_kpState (S a : State) : (startAuth S a).kpState = a.kpState := rfl
@[simp] theorem startAuth_colPrev (S a : State) : (startAuth S a).colPrev = a.colPrev := rfl
@[simp] theorem startAuth_rowPrev (S a : State) : (startAuth S a).rowPrev = a.rowPrev := rfl
@[simp] theorem startAuth_tagState (S a : State) : (startAuth S a).tagState = .authenticating := rfl
@[simp] theorem startAuth_rdPend (S a : State) : (startAuth S a).rdPend = true := rfl
@[simp] theorem startAuth_rdIssue (S a : State) : (startAuth S a).rdIssue = true := rfl
@[simp] theorem startAuth_rdOp (S a : State) : (startAuth S a).rdOp = .auth := rfl
@[simp] theorem startAuth_rdAbortQ (S a : State) : (startAuth S a).rdAbortQ = a.rdAbortQ := rfl
@[simp] theorem startAuth_uidSh (S a : State) : (startAuth S a).uidSh = a.uidSh := rfl
@[simp] theorem startAuth_uidlenSh (S a : State) : (startAuth S a).uidlenSh = a.uidlenSh := rfl
@[simp] theorem startAuth_pinPrev (S a : State) : (startAuth S a).pinPrev = a.pinPrev := rfl
@[simp] theorem startAuth_fccState (S a : State) : (startAuth S a).fccState = a.fccState := rfl
@[simp] theorem startAuth_flIssue (S a : State) : (startAuth S a).flIssue = a.flIssue := rfl
@[simp] theorem startAuth_flOp (S a : State) : (startAuth S a).flOp = a.flOp := rfl
@[simp] theorem startAuth_flPend (S a : State) : (startAuth S a).flPend = a.flPend := rfl
@[simp] theorem startAuth_presc (S a : State) : (startAuth S a).presc = a.presc := rfl
@[simp] theorem startAuth_busRdata (S a : State) : (startAuth S a).busRdata = a.busRdata := rfl
@[simp] theorem startAuth_busErr (S a : State) : (startAuth S a).busErr = a.busErr := rfl
@[simp] theorem startAuth_flash (S a : State) : (startAuth S a).flash = a.flash := rfl
@[simp] theorem startAuth_freeIdx (S a : State) : (startAuth S a).freeIdx = a.freeIdx := rfl
@[simp] theorem startAuth_inputs (S a : State) : (startAuth S a).inputs = a.inputs := rfl
@[simp] theorem startAuth_params (S a : State) : (startAuth S a).params = a.params := rfl

@[simp] theorem startRead_ctrl (S a : State) : (startRead S a).ctrl = a.ctrl := rfl
@[simp] theorem startRead_sticky (S a : State) : (startRead S a).sticky = a.sticky := rfl
@[simp] theorem startRead_flags (S a : State) : (startRead S a).flags = a.flags := rfl
@[simp] theorem startRead_irqEn (S a : State) : (startRead S a).irqEn = a.irqEn := rfl
@[simp] theorem startRead_keyCode (S a : State) : (startRead S a).keyCode = a.keyCode := rfl
@[simp] theorem startRead_keyRow (S a : State) : (startRead S a).keyRow = a.keyRow := rfl
@[simp] theorem startRead_keyCol (S a : State) : (startRead S a).keyCol = a.keyCol := rfl
@[simp] theorem startRead_tagCause (S a : State) : (startRead S a).tagCause = a.tagCause := rfl
@[simp] theorem startRead_cmdCause (S a : State) : (startRead S a).cmdCause = a.cmdCause := rfl
@[simp] theorem startRead_busCause (S a : State) : (startRead S a).busCause = a.busCause := rfl
@[simp] theorem startRead_dbPeriod (S a : State) : (startRead S a).dbPeriod = a.dbPeriod := rfl
@[simp] theorem startRead_pollPeriod (S a : State) : (startRead S a).pollPeriod = a.pollPeriod := rfl
@[simp] theorem startRead_xcvTimeout (S a : State) : (startRead S a).xcvTimeout = a.xcvTimeout := rfl
@[simp] theorem startRead_dispPeriod (S a : State) : (startRead S a).dispPeriod = a.dispPeriod := rfl
@[simp] theorem startRead_dbCount (S a : State) : (startRead S a).dbCount = a.dbCount := rfl
@[simp] theorem startRead_pollCount (S a : State) : (startRead S a).pollCount = a.pollCount := rfl
@[simp] theorem startRead_xcvCount (S a : State) : (startRead S a).xcvCount = load S.xcvTimeout := rfl
@[simp] theorem startRead_dispCount (S a : State) : (startRead S a).dispCount = a.dispCount := rfl
@[simp] theorem startRead_tagUidlen (S a : State) : (startRead S a).tagUidlen = a.tagUidlen := rfl
@[simp] theorem startRead_tagUid0 (S a : State) : (startRead S a).tagUid0 = a.tagUid0 := rfl
@[simp] theorem startRead_tagUid1 (S a : State) : (startRead S a).tagUid1 = a.tagUid1 := rfl
@[simp] theorem startRead_tagUid2 (S a : State) : (startRead S a).tagUid2 = a.tagUid2 := rfl
@[simp] theorem startRead_tagData0 (S a : State) : (startRead S a).tagData0 = a.tagData0 := rfl
@[simp] theorem startRead_tagData1 (S a : State) : (startRead S a).tagData1 = a.tagData1 := rfl
@[simp] theorem startRead_tagData2 (S a : State) : (startRead S a).tagData2 = a.tagData2 := rfl
@[simp] theorem startRead_tagData3 (S a : State) : (startRead S a).tagData3 = a.tagData3 := rfl
@[simp] theorem startRead_ledger (S a : State) : (startRead S a).ledger = a.ledger := rfl
@[simp] theorem startRead_kpState (S a : State) : (startRead S a).kpState = a.kpState := rfl
@[simp] theorem startRead_colPrev (S a : State) : (startRead S a).colPrev = a.colPrev := rfl
@[simp] theorem startRead_rowPrev (S a : State) : (startRead S a).rowPrev = a.rowPrev := rfl
@[simp] theorem startRead_tagState (S a : State) : (startRead S a).tagState = .reading := rfl
@[simp] theorem startRead_rdPend (S a : State) : (startRead S a).rdPend = true := rfl
@[simp] theorem startRead_rdIssue (S a : State) : (startRead S a).rdIssue = true := rfl
@[simp] theorem startRead_rdOp (S a : State) : (startRead S a).rdOp = .read := rfl
@[simp] theorem startRead_rdAbortQ (S a : State) : (startRead S a).rdAbortQ = a.rdAbortQ := rfl
@[simp] theorem startRead_uidSh (S a : State) : (startRead S a).uidSh = (input S).rspUid := rfl
@[simp] theorem startRead_uidlenSh (S a : State) : (startRead S a).uidlenSh = (input S).rspUidlen := rfl
@[simp] theorem startRead_pinPrev (S a : State) : (startRead S a).pinPrev = a.pinPrev := rfl
@[simp] theorem startRead_fccState (S a : State) : (startRead S a).fccState = a.fccState := rfl
@[simp] theorem startRead_flIssue (S a : State) : (startRead S a).flIssue = a.flIssue := rfl
@[simp] theorem startRead_flOp (S a : State) : (startRead S a).flOp = a.flOp := rfl
@[simp] theorem startRead_flPend (S a : State) : (startRead S a).flPend = a.flPend := rfl
@[simp] theorem startRead_presc (S a : State) : (startRead S a).presc = a.presc := rfl
@[simp] theorem startRead_busRdata (S a : State) : (startRead S a).busRdata = a.busRdata := rfl
@[simp] theorem startRead_busErr (S a : State) : (startRead S a).busErr = a.busErr := rfl
@[simp] theorem startRead_flash (S a : State) : (startRead S a).flash = a.flash := rfl
@[simp] theorem startRead_freeIdx (S a : State) : (startRead S a).freeIdx = a.freeIdx := rfl
@[simp] theorem startRead_inputs (S a : State) : (startRead S a).inputs = a.inputs := rfl
@[simp] theorem startRead_params (S a : State) : (startRead S a).params = a.params := rfl

@[simp] theorem publish_ctrl (u : BitVec 80) (l : BitVec 4) (d : BitVec 128) (a : State) : (publish u l d a).ctrl = a.ctrl := rfl
@[simp] theorem publish_sticky (u : BitVec 80) (l : BitVec 4) (d : BitVec 128) (a : State) : (publish u l d a).sticky = a.sticky := rfl
@[simp] theorem publish_flags (u : BitVec 80) (l : BitVec 4) (d : BitVec 128) (a : State) : (publish u l d a).flags = a.flags := rfl
@[simp] theorem publish_irqEn (u : BitVec 80) (l : BitVec 4) (d : BitVec 128) (a : State) : (publish u l d a).irqEn = a.irqEn := rfl
@[simp] theorem publish_keyCode (u : BitVec 80) (l : BitVec 4) (d : BitVec 128) (a : State) : (publish u l d a).keyCode = a.keyCode := rfl
@[simp] theorem publish_keyRow (u : BitVec 80) (l : BitVec 4) (d : BitVec 128) (a : State) : (publish u l d a).keyRow = a.keyRow := rfl
@[simp] theorem publish_keyCol (u : BitVec 80) (l : BitVec 4) (d : BitVec 128) (a : State) : (publish u l d a).keyCol = a.keyCol := rfl
@[simp] theorem publish_tagCause (u : BitVec 80) (l : BitVec 4) (d : BitVec 128) (a : State) : (publish u l d a).tagCause = a.tagCause := rfl
@[simp] theorem publish_cmdCause (u : BitVec 80) (l : BitVec 4) (d : BitVec 128) (a : State) : (publish u l d a).cmdCause = a.cmdCause := rfl
@[simp] theorem publish_busCause (u : BitVec 80) (l : BitVec 4) (d : BitVec 128) (a : State) : (publish u l d a).busCause = a.busCause := rfl
@[simp] theorem publish_dbPeriod (u : BitVec 80) (l : BitVec 4) (d : BitVec 128) (a : State) : (publish u l d a).dbPeriod = a.dbPeriod := rfl
@[simp] theorem publish_pollPeriod (u : BitVec 80) (l : BitVec 4) (d : BitVec 128) (a : State) : (publish u l d a).pollPeriod = a.pollPeriod := rfl
@[simp] theorem publish_xcvTimeout (u : BitVec 80) (l : BitVec 4) (d : BitVec 128) (a : State) : (publish u l d a).xcvTimeout = a.xcvTimeout := rfl
@[simp] theorem publish_dispPeriod (u : BitVec 80) (l : BitVec 4) (d : BitVec 128) (a : State) : (publish u l d a).dispPeriod = a.dispPeriod := rfl
@[simp] theorem publish_dbCount (u : BitVec 80) (l : BitVec 4) (d : BitVec 128) (a : State) : (publish u l d a).dbCount = a.dbCount := rfl
@[simp] theorem publish_pollCount (u : BitVec 80) (l : BitVec 4) (d : BitVec 128) (a : State) : (publish u l d a).pollCount = a.pollCount := rfl
@[simp] theorem publish_xcvCount (u : BitVec 80) (l : BitVec 4) (d : BitVec 128) (a : State) : (publish u l d a).xcvCount = a.xcvCount := rfl
@[simp] theorem publish_dispCount (u : BitVec 80) (l : BitVec 4) (d : BitVec 128) (a : State) : (publish u l d a).dispCount = a.dispCount := rfl
@[simp] theorem publish_tagUidlen (u : BitVec 80) (l : BitVec 4) (d : BitVec 128) (a : State) : (publish u l d a).tagUidlen = l := rfl
@[simp] theorem publish_tagUid0 (u : BitVec 80) (l : BitVec 4) (d : BitVec 128) (a : State) : (publish u l d a).tagUid0 = (uidKept u l).extractLsb' 0 32 := rfl
@[simp] theorem publish_tagUid1 (u : BitVec 80) (l : BitVec 4) (d : BitVec 128) (a : State) : (publish u l d a).tagUid1 = (uidKept u l).extractLsb' 32 32 := rfl
@[simp] theorem publish_tagUid2 (u : BitVec 80) (l : BitVec 4) (d : BitVec 128) (a : State) : (publish u l d a).tagUid2 = (uidKept u l).extractLsb' 64 16 := rfl
@[simp] theorem publish_tagData0 (u : BitVec 80) (l : BitVec 4) (d : BitVec 128) (a : State) : (publish u l d a).tagData0 = d.extractLsb' 0 32 := rfl
@[simp] theorem publish_tagData1 (u : BitVec 80) (l : BitVec 4) (d : BitVec 128) (a : State) : (publish u l d a).tagData1 = d.extractLsb' 32 32 := rfl
@[simp] theorem publish_tagData2 (u : BitVec 80) (l : BitVec 4) (d : BitVec 128) (a : State) : (publish u l d a).tagData2 = d.extractLsb' 64 32 := rfl
@[simp] theorem publish_tagData3 (u : BitVec 80) (l : BitVec 4) (d : BitVec 128) (a : State) : (publish u l d a).tagData3 = d.extractLsb' 96 32 := rfl
@[simp] theorem publish_ledger (u : BitVec 80) (l : BitVec 4) (d : BitVec 128) (a : State) : (publish u l d a).ledger = a.ledger := rfl
@[simp] theorem publish_kpState (u : BitVec 80) (l : BitVec 4) (d : BitVec 128) (a : State) : (publish u l d a).kpState = a.kpState := rfl
@[simp] theorem publish_colPrev (u : BitVec 80) (l : BitVec 4) (d : BitVec 128) (a : State) : (publish u l d a).colPrev = a.colPrev := rfl
@[simp] theorem publish_rowPrev (u : BitVec 80) (l : BitVec 4) (d : BitVec 128) (a : State) : (publish u l d a).rowPrev = a.rowPrev := rfl
@[simp] theorem publish_tagState (u : BitVec 80) (l : BitVec 4) (d : BitVec 128) (a : State) : (publish u l d a).tagState = a.tagState := rfl
@[simp] theorem publish_rdPend (u : BitVec 80) (l : BitVec 4) (d : BitVec 128) (a : State) : (publish u l d a).rdPend = a.rdPend := rfl
@[simp] theorem publish_rdIssue (u : BitVec 80) (l : BitVec 4) (d : BitVec 128) (a : State) : (publish u l d a).rdIssue = a.rdIssue := rfl
@[simp] theorem publish_rdOp (u : BitVec 80) (l : BitVec 4) (d : BitVec 128) (a : State) : (publish u l d a).rdOp = a.rdOp := rfl
@[simp] theorem publish_rdAbortQ (u : BitVec 80) (l : BitVec 4) (d : BitVec 128) (a : State) : (publish u l d a).rdAbortQ = a.rdAbortQ := rfl
@[simp] theorem publish_uidSh (u : BitVec 80) (l : BitVec 4) (d : BitVec 128) (a : State) : (publish u l d a).uidSh = a.uidSh := rfl
@[simp] theorem publish_uidlenSh (u : BitVec 80) (l : BitVec 4) (d : BitVec 128) (a : State) : (publish u l d a).uidlenSh = a.uidlenSh := rfl
@[simp] theorem publish_pinPrev (u : BitVec 80) (l : BitVec 4) (d : BitVec 128) (a : State) : (publish u l d a).pinPrev = a.pinPrev := rfl
@[simp] theorem publish_fccState (u : BitVec 80) (l : BitVec 4) (d : BitVec 128) (a : State) : (publish u l d a).fccState = a.fccState := rfl
@[simp] theorem publish_flIssue (u : BitVec 80) (l : BitVec 4) (d : BitVec 128) (a : State) : (publish u l d a).flIssue = a.flIssue := rfl
@[simp] theorem publish_flOp (u : BitVec 80) (l : BitVec 4) (d : BitVec 128) (a : State) : (publish u l d a).flOp = a.flOp := rfl
@[simp] theorem publish_flPend (u : BitVec 80) (l : BitVec 4) (d : BitVec 128) (a : State) : (publish u l d a).flPend = a.flPend := rfl
@[simp] theorem publish_presc (u : BitVec 80) (l : BitVec 4) (d : BitVec 128) (a : State) : (publish u l d a).presc = a.presc := rfl
@[simp] theorem publish_busRdata (u : BitVec 80) (l : BitVec 4) (d : BitVec 128) (a : State) : (publish u l d a).busRdata = a.busRdata := rfl
@[simp] theorem publish_busErr (u : BitVec 80) (l : BitVec 4) (d : BitVec 128) (a : State) : (publish u l d a).busErr = a.busErr := rfl
@[simp] theorem publish_flash (u : BitVec 80) (l : BitVec 4) (d : BitVec 128) (a : State) : (publish u l d a).flash = a.flash := rfl
@[simp] theorem publish_freeIdx (u : BitVec 80) (l : BitVec 4) (d : BitVec 128) (a : State) : (publish u l d a).freeIdx = a.freeIdx := rfl
@[simp] theorem publish_inputs (u : BitVec 80) (l : BitVec 4) (d : BitVec 128) (a : State) : (publish u l d a).inputs = a.inputs := rfl
@[simp] theorem publish_params (u : BitVec 80) (l : BitVec 4) (d : BitVec 128) (a : State) : (publish u l d a).params = a.params := rfl

@[simp] theorem withInput_ctrl (f : Inputs → Inputs) (s : State) : (withInput f s).ctrl = s.ctrl := rfl
@[simp] theorem withInput_sticky (f : Inputs → Inputs) (s : State) : (withInput f s).sticky = s.sticky := rfl
@[simp] theorem withInput_flags (f : Inputs → Inputs) (s : State) : (withInput f s).flags = s.flags := rfl
@[simp] theorem withInput_irqEn (f : Inputs → Inputs) (s : State) : (withInput f s).irqEn = s.irqEn := rfl
@[simp] theorem withInput_keyCode (f : Inputs → Inputs) (s : State) : (withInput f s).keyCode = s.keyCode := rfl
@[simp] theorem withInput_keyRow (f : Inputs → Inputs) (s : State) : (withInput f s).keyRow = s.keyRow := rfl
@[simp] theorem withInput_keyCol (f : Inputs → Inputs) (s : State) : (withInput f s).keyCol = s.keyCol := rfl
@[simp] theorem withInput_tagCause (f : Inputs → Inputs) (s : State) : (withInput f s).tagCause = s.tagCause := rfl
@[simp] theorem withInput_cmdCause (f : Inputs → Inputs) (s : State) : (withInput f s).cmdCause = s.cmdCause := rfl
@[simp] theorem withInput_busCause (f : Inputs → Inputs) (s : State) : (withInput f s).busCause = s.busCause := rfl
@[simp] theorem withInput_dbPeriod (f : Inputs → Inputs) (s : State) : (withInput f s).dbPeriod = s.dbPeriod := rfl
@[simp] theorem withInput_pollPeriod (f : Inputs → Inputs) (s : State) : (withInput f s).pollPeriod = s.pollPeriod := rfl
@[simp] theorem withInput_xcvTimeout (f : Inputs → Inputs) (s : State) : (withInput f s).xcvTimeout = s.xcvTimeout := rfl
@[simp] theorem withInput_dispPeriod (f : Inputs → Inputs) (s : State) : (withInput f s).dispPeriod = s.dispPeriod := rfl
@[simp] theorem withInput_dbCount (f : Inputs → Inputs) (s : State) : (withInput f s).dbCount = s.dbCount := rfl
@[simp] theorem withInput_pollCount (f : Inputs → Inputs) (s : State) : (withInput f s).pollCount = s.pollCount := rfl
@[simp] theorem withInput_xcvCount (f : Inputs → Inputs) (s : State) : (withInput f s).xcvCount = s.xcvCount := rfl
@[simp] theorem withInput_dispCount (f : Inputs → Inputs) (s : State) : (withInput f s).dispCount = s.dispCount := rfl
@[simp] theorem withInput_tagUidlen (f : Inputs → Inputs) (s : State) : (withInput f s).tagUidlen = s.tagUidlen := rfl
@[simp] theorem withInput_tagUid0 (f : Inputs → Inputs) (s : State) : (withInput f s).tagUid0 = s.tagUid0 := rfl
@[simp] theorem withInput_tagUid1 (f : Inputs → Inputs) (s : State) : (withInput f s).tagUid1 = s.tagUid1 := rfl
@[simp] theorem withInput_tagUid2 (f : Inputs → Inputs) (s : State) : (withInput f s).tagUid2 = s.tagUid2 := rfl
@[simp] theorem withInput_tagData0 (f : Inputs → Inputs) (s : State) : (withInput f s).tagData0 = s.tagData0 := rfl
@[simp] theorem withInput_tagData1 (f : Inputs → Inputs) (s : State) : (withInput f s).tagData1 = s.tagData1 := rfl
@[simp] theorem withInput_tagData2 (f : Inputs → Inputs) (s : State) : (withInput f s).tagData2 = s.tagData2 := rfl
@[simp] theorem withInput_tagData3 (f : Inputs → Inputs) (s : State) : (withInput f s).tagData3 = s.tagData3 := rfl
@[simp] theorem withInput_ledger (f : Inputs → Inputs) (s : State) : (withInput f s).ledger = s.ledger := rfl
@[simp] theorem withInput_kpState (f : Inputs → Inputs) (s : State) : (withInput f s).kpState = s.kpState := rfl
@[simp] theorem withInput_colPrev (f : Inputs → Inputs) (s : State) : (withInput f s).colPrev = s.colPrev := rfl
@[simp] theorem withInput_rowPrev (f : Inputs → Inputs) (s : State) : (withInput f s).rowPrev = s.rowPrev := rfl
@[simp] theorem withInput_tagState (f : Inputs → Inputs) (s : State) : (withInput f s).tagState = s.tagState := rfl
@[simp] theorem withInput_rdPend (f : Inputs → Inputs) (s : State) : (withInput f s).rdPend = s.rdPend := rfl
@[simp] theorem withInput_rdIssue (f : Inputs → Inputs) (s : State) : (withInput f s).rdIssue = s.rdIssue := rfl
@[simp] theorem withInput_rdOp (f : Inputs → Inputs) (s : State) : (withInput f s).rdOp = s.rdOp := rfl
@[simp] theorem withInput_rdAbortQ (f : Inputs → Inputs) (s : State) : (withInput f s).rdAbortQ = s.rdAbortQ := rfl
@[simp] theorem withInput_uidSh (f : Inputs → Inputs) (s : State) : (withInput f s).uidSh = s.uidSh := rfl
@[simp] theorem withInput_uidlenSh (f : Inputs → Inputs) (s : State) : (withInput f s).uidlenSh = s.uidlenSh := rfl
@[simp] theorem withInput_pinPrev (f : Inputs → Inputs) (s : State) : (withInput f s).pinPrev = s.pinPrev := rfl
@[simp] theorem withInput_fccState (f : Inputs → Inputs) (s : State) : (withInput f s).fccState = s.fccState := rfl
@[simp] theorem withInput_flIssue (f : Inputs → Inputs) (s : State) : (withInput f s).flIssue = s.flIssue := rfl
@[simp] theorem withInput_flOp (f : Inputs → Inputs) (s : State) : (withInput f s).flOp = s.flOp := rfl
@[simp] theorem withInput_flPend (f : Inputs → Inputs) (s : State) : (withInput f s).flPend = s.flPend := rfl
@[simp] theorem withInput_presc (f : Inputs → Inputs) (s : State) : (withInput f s).presc = s.presc := rfl
@[simp] theorem withInput_busRdata (f : Inputs → Inputs) (s : State) : (withInput f s).busRdata = s.busRdata := rfl
@[simp] theorem withInput_busErr (f : Inputs → Inputs) (s : State) : (withInput f s).busErr = s.busErr := rfl
@[simp] theorem withInput_flash (f : Inputs → Inputs) (s : State) : (withInput f s).flash = s.flash := rfl
@[simp] theorem withInput_freeIdx (f : Inputs → Inputs) (s : State) : (withInput f s).freeIdx = s.freeIdx := rfl
@[simp] theorem withInput_inputs (f : Inputs → Inputs) (s : State) : (withInput f s).inputs = f (input s) :: s.inputs.tail := rfl
@[simp] theorem withInput_params (f : Inputs → Inputs) (s : State) : (withInput f s).params = s.params := rfl

@[simp] theorem tagPublish_ctrl (S a : State) : (tagPublish S a).ctrl = a.ctrl := rfl
@[simp] theorem tagPublish_sticky (S a : State) : (tagPublish S a).sticky = a.sticky := rfl
@[simp] theorem tagPublish_flags (S a : State) : (tagPublish S a).flags = a.flags ||| flagMask .tagReady := rfl
@[simp] theorem tagPublish_irqEn (S a : State) : (tagPublish S a).irqEn = a.irqEn := rfl
@[simp] theorem tagPublish_keyCode (S a : State) : (tagPublish S a).keyCode = a.keyCode := rfl
@[simp] theorem tagPublish_keyRow (S a : State) : (tagPublish S a).keyRow = a.keyRow := rfl
@[simp] theorem tagPublish_keyCol (S a : State) : (tagPublish S a).keyCol = a.keyCol := rfl
@[simp] theorem tagPublish_tagCause (S a : State) : (tagPublish S a).tagCause = a.tagCause := rfl
@[simp] theorem tagPublish_cmdCause (S a : State) : (tagPublish S a).cmdCause = a.cmdCause := rfl
@[simp] theorem tagPublish_busCause (S a : State) : (tagPublish S a).busCause = a.busCause := rfl
@[simp] theorem tagPublish_dbPeriod (S a : State) : (tagPublish S a).dbPeriod = a.dbPeriod := rfl
@[simp] theorem tagPublish_pollPeriod (S a : State) : (tagPublish S a).pollPeriod = a.pollPeriod := rfl
@[simp] theorem tagPublish_xcvTimeout (S a : State) : (tagPublish S a).xcvTimeout = a.xcvTimeout := rfl
@[simp] theorem tagPublish_dispPeriod (S a : State) : (tagPublish S a).dispPeriod = a.dispPeriod := rfl
@[simp] theorem tagPublish_dbCount (S a : State) : (tagPublish S a).dbCount = a.dbCount := rfl
@[simp] theorem tagPublish_pollCount (S a : State) : (tagPublish S a).pollCount = a.pollCount := rfl
@[simp] theorem tagPublish_xcvCount (S a : State) : (tagPublish S a).xcvCount = a.xcvCount := rfl
@[simp] theorem tagPublish_dispCount (S a : State) : (tagPublish S a).dispCount = a.dispCount := rfl
@[simp] theorem tagPublish_ledger (S a : State) : (tagPublish S a).ledger = a.ledger := rfl
@[simp] theorem tagPublish_kpState (S a : State) : (tagPublish S a).kpState = a.kpState := rfl
@[simp] theorem tagPublish_colPrev (S a : State) : (tagPublish S a).colPrev = a.colPrev := rfl
@[simp] theorem tagPublish_rowPrev (S a : State) : (tagPublish S a).rowPrev = a.rowPrev := rfl
@[simp] theorem tagPublish_tagState (S a : State) : (tagPublish S a).tagState = .present := rfl
@[simp] theorem tagPublish_rdPend (S a : State) : (tagPublish S a).rdPend = a.rdPend := rfl
@[simp] theorem tagPublish_rdIssue (S a : State) : (tagPublish S a).rdIssue = a.rdIssue := rfl
@[simp] theorem tagPublish_rdOp (S a : State) : (tagPublish S a).rdOp = a.rdOp := rfl
@[simp] theorem tagPublish_rdAbortQ (S a : State) : (tagPublish S a).rdAbortQ = a.rdAbortQ := rfl
@[simp] theorem tagPublish_uidSh (S a : State) : (tagPublish S a).uidSh = a.uidSh := rfl
@[simp] theorem tagPublish_uidlenSh (S a : State) : (tagPublish S a).uidlenSh = a.uidlenSh := rfl
@[simp] theorem tagPublish_pinPrev (S a : State) : (tagPublish S a).pinPrev = a.pinPrev := rfl
@[simp] theorem tagPublish_fccState (S a : State) : (tagPublish S a).fccState = a.fccState := rfl
@[simp] theorem tagPublish_flIssue (S a : State) : (tagPublish S a).flIssue = a.flIssue := rfl
@[simp] theorem tagPublish_flOp (S a : State) : (tagPublish S a).flOp = a.flOp := rfl
@[simp] theorem tagPublish_flPend (S a : State) : (tagPublish S a).flPend = a.flPend := rfl
@[simp] theorem tagPublish_presc (S a : State) : (tagPublish S a).presc = a.presc := rfl
@[simp] theorem tagPublish_busRdata (S a : State) : (tagPublish S a).busRdata = a.busRdata := rfl
@[simp] theorem tagPublish_busErr (S a : State) : (tagPublish S a).busErr = a.busErr := rfl
@[simp] theorem tagPublish_flash (S a : State) : (tagPublish S a).flash = a.flash := rfl
@[simp] theorem tagPublish_freeIdx (S a : State) : (tagPublish S a).freeIdx = a.freeIdx := rfl
@[simp] theorem tagPublish_inputs (S a : State) : (tagPublish S a).inputs = a.inputs := rfl
@[simp] theorem tagPublish_params (S a : State) : (tagPublish S a).params = a.params := rfl

@[simp] theorem tagFail_ctrl (c : TagCause) (a : State) : (tagFail c a).ctrl = a.ctrl := rfl
@[simp] theorem tagFail_sticky (c : TagCause) (a : State) : (tagFail c a).sticky = a.sticky ||| 2 := rfl
@[simp] theorem tagFail_flags (c : TagCause) (a : State) : (tagFail c a).flags = a.flags := rfl
@[simp] theorem tagFail_irqEn (c : TagCause) (a : State) : (tagFail c a).irqEn = a.irqEn := rfl
@[simp] theorem tagFail_keyCode (c : TagCause) (a : State) : (tagFail c a).keyCode = a.keyCode := rfl
@[simp] theorem tagFail_keyRow (c : TagCause) (a : State) : (tagFail c a).keyRow = a.keyRow := rfl
@[simp] theorem tagFail_keyCol (c : TagCause) (a : State) : (tagFail c a).keyCol = a.keyCol := rfl
@[simp] theorem tagFail_tagCause (c : TagCause) (a : State) : (tagFail c a).tagCause = tagCauseCode c := rfl
@[simp] theorem tagFail_cmdCause (c : TagCause) (a : State) : (tagFail c a).cmdCause = a.cmdCause := rfl
@[simp] theorem tagFail_busCause (c : TagCause) (a : State) : (tagFail c a).busCause = a.busCause := rfl
@[simp] theorem tagFail_dbPeriod (c : TagCause) (a : State) : (tagFail c a).dbPeriod = a.dbPeriod := rfl
@[simp] theorem tagFail_pollPeriod (c : TagCause) (a : State) : (tagFail c a).pollPeriod = a.pollPeriod := rfl
@[simp] theorem tagFail_xcvTimeout (c : TagCause) (a : State) : (tagFail c a).xcvTimeout = a.xcvTimeout := rfl
@[simp] theorem tagFail_dispPeriod (c : TagCause) (a : State) : (tagFail c a).dispPeriod = a.dispPeriod := rfl
@[simp] theorem tagFail_dbCount (c : TagCause) (a : State) : (tagFail c a).dbCount = a.dbCount := rfl
@[simp] theorem tagFail_pollCount (c : TagCause) (a : State) : (tagFail c a).pollCount = a.pollCount := rfl
@[simp] theorem tagFail_xcvCount (c : TagCause) (a : State) : (tagFail c a).xcvCount = a.xcvCount := rfl
@[simp] theorem tagFail_dispCount (c : TagCause) (a : State) : (tagFail c a).dispCount = a.dispCount := rfl
@[simp] theorem tagFail_tagUidlen (c : TagCause) (a : State) : (tagFail c a).tagUidlen = a.tagUidlen := rfl
@[simp] theorem tagFail_tagUid0 (c : TagCause) (a : State) : (tagFail c a).tagUid0 = a.tagUid0 := rfl
@[simp] theorem tagFail_tagUid1 (c : TagCause) (a : State) : (tagFail c a).tagUid1 = a.tagUid1 := rfl
@[simp] theorem tagFail_tagUid2 (c : TagCause) (a : State) : (tagFail c a).tagUid2 = a.tagUid2 := rfl
@[simp] theorem tagFail_tagData0 (c : TagCause) (a : State) : (tagFail c a).tagData0 = a.tagData0 := rfl
@[simp] theorem tagFail_tagData1 (c : TagCause) (a : State) : (tagFail c a).tagData1 = a.tagData1 := rfl
@[simp] theorem tagFail_tagData2 (c : TagCause) (a : State) : (tagFail c a).tagData2 = a.tagData2 := rfl
@[simp] theorem tagFail_tagData3 (c : TagCause) (a : State) : (tagFail c a).tagData3 = a.tagData3 := rfl
@[simp] theorem tagFail_ledger (c : TagCause) (a : State) : (tagFail c a).ledger = a.ledger := rfl
@[simp] theorem tagFail_kpState (c : TagCause) (a : State) : (tagFail c a).kpState = a.kpState := rfl
@[simp] theorem tagFail_colPrev (c : TagCause) (a : State) : (tagFail c a).colPrev = a.colPrev := rfl
@[simp] theorem tagFail_rowPrev (c : TagCause) (a : State) : (tagFail c a).rowPrev = a.rowPrev := rfl
@[simp] theorem tagFail_tagState (c : TagCause) (a : State) : (tagFail c a).tagState = .polling := rfl
@[simp] theorem tagFail_rdPend (c : TagCause) (a : State) : (tagFail c a).rdPend = a.rdPend := rfl
@[simp] theorem tagFail_rdIssue (c : TagCause) (a : State) : (tagFail c a).rdIssue = a.rdIssue := rfl
@[simp] theorem tagFail_rdOp (c : TagCause) (a : State) : (tagFail c a).rdOp = a.rdOp := rfl
@[simp] theorem tagFail_rdAbortQ (c : TagCause) (a : State) : (tagFail c a).rdAbortQ = a.rdAbortQ := rfl
@[simp] theorem tagFail_uidSh (c : TagCause) (a : State) : (tagFail c a).uidSh = a.uidSh := rfl
@[simp] theorem tagFail_uidlenSh (c : TagCause) (a : State) : (tagFail c a).uidlenSh = a.uidlenSh := rfl
@[simp] theorem tagFail_pinPrev (c : TagCause) (a : State) : (tagFail c a).pinPrev = a.pinPrev := rfl
@[simp] theorem tagFail_fccState (c : TagCause) (a : State) : (tagFail c a).fccState = a.fccState := rfl
@[simp] theorem tagFail_flIssue (c : TagCause) (a : State) : (tagFail c a).flIssue = a.flIssue := rfl
@[simp] theorem tagFail_flOp (c : TagCause) (a : State) : (tagFail c a).flOp = a.flOp := rfl
@[simp] theorem tagFail_flPend (c : TagCause) (a : State) : (tagFail c a).flPend = a.flPend := rfl
@[simp] theorem tagFail_presc (c : TagCause) (a : State) : (tagFail c a).presc = a.presc := rfl
@[simp] theorem tagFail_busRdata (c : TagCause) (a : State) : (tagFail c a).busRdata = a.busRdata := rfl
@[simp] theorem tagFail_busErr (c : TagCause) (a : State) : (tagFail c a).busErr = a.busErr := rfl
@[simp] theorem tagFail_flash (c : TagCause) (a : State) : (tagFail c a).flash = a.flash := rfl
@[simp] theorem tagFail_freeIdx (c : TagCause) (a : State) : (tagFail c a).freeIdx = a.freeIdx := rfl
@[simp] theorem tagFail_inputs (c : TagCause) (a : State) : (tagFail c a).inputs = a.inputs := rfl
@[simp] theorem tagFail_params (c : TagCause) (a : State) : (tagFail c a).params = a.params := rfl

@[simp] theorem beginCycle_ctrl (s : State) : (beginCycle s).ctrl = s.ctrl := rfl
@[simp] theorem beginCycle_sticky (s : State) : (beginCycle s).sticky = s.sticky := rfl
@[simp] theorem beginCycle_flags (s : State) : (beginCycle s).flags = s.flags := rfl
@[simp] theorem beginCycle_irqEn (s : State) : (beginCycle s).irqEn = s.irqEn := rfl
@[simp] theorem beginCycle_keyCode (s : State) : (beginCycle s).keyCode = s.keyCode := rfl
@[simp] theorem beginCycle_keyRow (s : State) : (beginCycle s).keyRow = s.keyRow := rfl
@[simp] theorem beginCycle_keyCol (s : State) : (beginCycle s).keyCol = s.keyCol := rfl
@[simp] theorem beginCycle_tagCause (s : State) : (beginCycle s).tagCause = s.tagCause := rfl
@[simp] theorem beginCycle_cmdCause (s : State) : (beginCycle s).cmdCause = s.cmdCause := rfl
@[simp] theorem beginCycle_busCause (s : State) : (beginCycle s).busCause = s.busCause := rfl
@[simp] theorem beginCycle_dbPeriod (s : State) : (beginCycle s).dbPeriod = s.dbPeriod := rfl
@[simp] theorem beginCycle_pollPeriod (s : State) : (beginCycle s).pollPeriod = s.pollPeriod := rfl
@[simp] theorem beginCycle_xcvTimeout (s : State) : (beginCycle s).xcvTimeout = s.xcvTimeout := rfl
@[simp] theorem beginCycle_dispPeriod (s : State) : (beginCycle s).dispPeriod = s.dispPeriod := rfl
@[simp] theorem beginCycle_dbCount (s : State) : (beginCycle s).dbCount = s.dbCount := rfl
@[simp] theorem beginCycle_pollCount (s : State) : (beginCycle s).pollCount = s.pollCount := rfl
@[simp] theorem beginCycle_xcvCount (s : State) : (beginCycle s).xcvCount = s.xcvCount := rfl
@[simp] theorem beginCycle_dispCount (s : State) : (beginCycle s).dispCount = s.dispCount := rfl
@[simp] theorem beginCycle_tagUidlen (s : State) : (beginCycle s).tagUidlen = s.tagUidlen := rfl
@[simp] theorem beginCycle_tagUid0 (s : State) : (beginCycle s).tagUid0 = s.tagUid0 := rfl
@[simp] theorem beginCycle_tagUid1 (s : State) : (beginCycle s).tagUid1 = s.tagUid1 := rfl
@[simp] theorem beginCycle_tagUid2 (s : State) : (beginCycle s).tagUid2 = s.tagUid2 := rfl
@[simp] theorem beginCycle_tagData0 (s : State) : (beginCycle s).tagData0 = s.tagData0 := rfl
@[simp] theorem beginCycle_tagData1 (s : State) : (beginCycle s).tagData1 = s.tagData1 := rfl
@[simp] theorem beginCycle_tagData2 (s : State) : (beginCycle s).tagData2 = s.tagData2 := rfl
@[simp] theorem beginCycle_tagData3 (s : State) : (beginCycle s).tagData3 = s.tagData3 := rfl
@[simp] theorem beginCycle_ledger (s : State) : (beginCycle s).ledger = s.ledger := rfl
@[simp] theorem beginCycle_kpState (s : State) : (beginCycle s).kpState = s.kpState := rfl
@[simp] theorem beginCycle_colPrev (s : State) : (beginCycle s).colPrev = s.colPrev := rfl
@[simp] theorem beginCycle_rowPrev (s : State) : (beginCycle s).rowPrev = s.rowPrev := rfl
@[simp] theorem beginCycle_tagState (s : State) : (beginCycle s).tagState = s.tagState := rfl
@[simp] theorem beginCycle_rdPend (s : State) : (beginCycle s).rdPend = s.rdPend := rfl
@[simp] theorem beginCycle_rdIssue (s : State) : (beginCycle s).rdIssue = false := rfl
@[simp] theorem beginCycle_rdOp (s : State) : (beginCycle s).rdOp = s.rdOp := rfl
@[simp] theorem beginCycle_rdAbortQ (s : State) : (beginCycle s).rdAbortQ = false := rfl
@[simp] theorem beginCycle_uidSh (s : State) : (beginCycle s).uidSh = s.uidSh := rfl
@[simp] theorem beginCycle_uidlenSh (s : State) : (beginCycle s).uidlenSh = s.uidlenSh := rfl
@[simp] theorem beginCycle_pinPrev (s : State) : (beginCycle s).pinPrev = s.pinPrev := rfl
@[simp] theorem beginCycle_fccState (s : State) : (beginCycle s).fccState = s.fccState := rfl
@[simp] theorem beginCycle_flIssue (s : State) : (beginCycle s).flIssue = false := rfl
@[simp] theorem beginCycle_flOp (s : State) : (beginCycle s).flOp = s.flOp := rfl
@[simp] theorem beginCycle_flPend (s : State) : (beginCycle s).flPend = s.flPend := rfl
@[simp] theorem beginCycle_presc (s : State) : (beginCycle s).presc = s.presc := rfl
@[simp] theorem beginCycle_busRdata (s : State) : (beginCycle s).busRdata = 0 := rfl
@[simp] theorem beginCycle_busErr (s : State) : (beginCycle s).busErr = false := rfl
@[simp] theorem beginCycle_flash (s : State) : (beginCycle s).flash = s.flash := rfl
@[simp] theorem beginCycle_freeIdx (s : State) : (beginCycle s).freeIdx = s.freeIdx := rfl
@[simp] theorem beginCycle_inputs (s : State) : (beginCycle s).inputs = s.inputs := rfl
@[simp] theorem beginCycle_params (s : State) : (beginCycle s).params = s.params := rfl

@[simp] theorem endCycle_ctrl (S a : State) : (endCycle S a).ctrl = a.ctrl := rfl
@[simp] theorem endCycle_sticky (S a : State) : (endCycle S a).sticky = a.sticky := rfl
@[simp] theorem endCycle_flags (S a : State) : (endCycle S a).flags = a.flags := rfl
@[simp] theorem endCycle_irqEn (S a : State) : (endCycle S a).irqEn = a.irqEn := rfl
@[simp] theorem endCycle_keyCode (S a : State) : (endCycle S a).keyCode = a.keyCode := rfl
@[simp] theorem endCycle_keyRow (S a : State) : (endCycle S a).keyRow = a.keyRow := rfl
@[simp] theorem endCycle_keyCol (S a : State) : (endCycle S a).keyCol = a.keyCol := rfl
@[simp] theorem endCycle_tagCause (S a : State) : (endCycle S a).tagCause = a.tagCause := rfl
@[simp] theorem endCycle_cmdCause (S a : State) : (endCycle S a).cmdCause = a.cmdCause := rfl
@[simp] theorem endCycle_busCause (S a : State) : (endCycle S a).busCause = a.busCause := rfl
@[simp] theorem endCycle_dbPeriod (S a : State) : (endCycle S a).dbPeriod = a.dbPeriod := rfl
@[simp] theorem endCycle_pollPeriod (S a : State) : (endCycle S a).pollPeriod = a.pollPeriod := rfl
@[simp] theorem endCycle_xcvTimeout (S a : State) : (endCycle S a).xcvTimeout = a.xcvTimeout := rfl
@[simp] theorem endCycle_dispPeriod (S a : State) : (endCycle S a).dispPeriod = a.dispPeriod := rfl
@[simp] theorem endCycle_dbCount (S a : State) : (endCycle S a).dbCount = a.dbCount := rfl
@[simp] theorem endCycle_pollCount (S a : State) : (endCycle S a).pollCount = a.pollCount := rfl
@[simp] theorem endCycle_xcvCount (S a : State) : (endCycle S a).xcvCount = a.xcvCount := rfl
@[simp] theorem endCycle_dispCount (S a : State) : (endCycle S a).dispCount = a.dispCount := rfl
@[simp] theorem endCycle_tagUidlen (S a : State) : (endCycle S a).tagUidlen = a.tagUidlen := rfl
@[simp] theorem endCycle_tagUid0 (S a : State) : (endCycle S a).tagUid0 = a.tagUid0 := rfl
@[simp] theorem endCycle_tagUid1 (S a : State) : (endCycle S a).tagUid1 = a.tagUid1 := rfl
@[simp] theorem endCycle_tagUid2 (S a : State) : (endCycle S a).tagUid2 = a.tagUid2 := rfl
@[simp] theorem endCycle_tagData0 (S a : State) : (endCycle S a).tagData0 = a.tagData0 := rfl
@[simp] theorem endCycle_tagData1 (S a : State) : (endCycle S a).tagData1 = a.tagData1 := rfl
@[simp] theorem endCycle_tagData2 (S a : State) : (endCycle S a).tagData2 = a.tagData2 := rfl
@[simp] theorem endCycle_tagData3 (S a : State) : (endCycle S a).tagData3 = a.tagData3 := rfl
@[simp] theorem endCycle_ledger (S a : State) : (endCycle S a).ledger = a.ledger := rfl
@[simp] theorem endCycle_kpState (S a : State) : (endCycle S a).kpState = a.kpState := rfl
@[simp] theorem endCycle_colPrev (S a : State) : (endCycle S a).colPrev = (input S).kpCol := rfl
@[simp] theorem endCycle_rowPrev (S a : State) : (endCycle S a).rowPrev = (input S).kpRow := rfl
@[simp] theorem endCycle_tagState (S a : State) : (endCycle S a).tagState = a.tagState := rfl
@[simp] theorem endCycle_rdPend (S a : State) : (endCycle S a).rdPend = a.rdPend := rfl
@[simp] theorem endCycle_rdIssue (S a : State) : (endCycle S a).rdIssue = a.rdIssue := rfl
@[simp] theorem endCycle_rdOp (S a : State) : (endCycle S a).rdOp = a.rdOp := rfl
@[simp] theorem endCycle_rdAbortQ (S a : State) : (endCycle S a).rdAbortQ = a.rdAbortQ := rfl
@[simp] theorem endCycle_uidSh (S a : State) : (endCycle S a).uidSh = a.uidSh := rfl
@[simp] theorem endCycle_uidlenSh (S a : State) : (endCycle S a).uidlenSh = a.uidlenSh := rfl
@[simp] theorem endCycle_pinPrev (S a : State) : (endCycle S a).pinPrev = (input S).tagPin := rfl
@[simp] theorem endCycle_fccState (S a : State) : (endCycle S a).fccState = a.fccState := rfl
@[simp] theorem endCycle_flIssue (S a : State) : (endCycle S a).flIssue = a.flIssue := rfl
@[simp] theorem endCycle_flOp (S a : State) : (endCycle S a).flOp = a.flOp := rfl
@[simp] theorem endCycle_flPend (S a : State) : (endCycle S a).flPend = a.flPend := rfl
@[simp] theorem endCycle_presc (S a : State) : (endCycle S a).presc = prescNext S := rfl
@[simp] theorem endCycle_busRdata (S a : State) : (endCycle S a).busRdata = a.busRdata := rfl
@[simp] theorem endCycle_busErr (S a : State) : (endCycle S a).busErr = a.busErr := rfl
@[simp] theorem endCycle_flash (S a : State) : (endCycle S a).flash = a.flash := rfl
@[simp] theorem endCycle_freeIdx (S a : State) : (endCycle S a).freeIdx = a.freeIdx := rfl
@[simp] theorem endCycle_inputs (S a : State) : (endCycle S a).inputs = S.inputs.tail := rfl
@[simp] theorem endCycle_params (S a : State) : (endCycle S a).params = a.params := rfl

end Sys2Proof.Machine
end

