-- ==== Sys2Proof/Laws/Steps.lean ====
section
/-! SUPPORT. The frame of each sub-step: the fields it never writes. -/

namespace Sys2Proof.Machine

@[simp] theorem kpdStep_ctrl (S a : State) : (kpdStep S a).ctrl = a.ctrl := by
  unfold kpdStep kpdScan kpdDebounce; repeat' split
  all_goals rfl
@[simp] theorem kpdStep_irqEn (S a : State) : (kpdStep S a).irqEn = a.irqEn := by
  unfold kpdStep kpdScan kpdDebounce; repeat' split
  all_goals rfl
@[simp] theorem kpdStep_tagCause (S a : State) : (kpdStep S a).tagCause = a.tagCause := by
  unfold kpdStep kpdScan kpdDebounce; repeat' split
  all_goals rfl
@[simp] theorem kpdStep_cmdCause (S a : State) : (kpdStep S a).cmdCause = a.cmdCause := by
  unfold kpdStep kpdScan kpdDebounce; repeat' split
  all_goals rfl
@[simp] theorem kpdStep_busCause (S a : State) : (kpdStep S a).busCause = a.busCause := by
  unfold kpdStep kpdScan kpdDebounce; repeat' split
  all_goals rfl
@[simp] theorem kpdStep_dbPeriod (S a : State) : (kpdStep S a).dbPeriod = a.dbPeriod := by
  unfold kpdStep kpdScan kpdDebounce; repeat' split
  all_goals rfl
@[simp] theorem kpdStep_pollPeriod (S a : State) : (kpdStep S a).pollPeriod = a.pollPeriod := by
  unfold kpdStep kpdScan kpdDebounce; repeat' split
  all_goals rfl
@[simp] theorem kpdStep_xcvTimeout (S a : State) : (kpdStep S a).xcvTimeout = a.xcvTimeout := by
  unfold kpdStep kpdScan kpdDebounce; repeat' split
  all_goals rfl
@[simp] theorem kpdStep_dispPeriod (S a : State) : (kpdStep S a).dispPeriod = a.dispPeriod := by
  unfold kpdStep kpdScan kpdDebounce; repeat' split
  all_goals rfl
@[simp] theorem kpdStep_pollCount (S a : State) : (kpdStep S a).pollCount = a.pollCount := by
  unfold kpdStep kpdScan kpdDebounce; repeat' split
  all_goals rfl
@[simp] theorem kpdStep_xcvCount (S a : State) : (kpdStep S a).xcvCount = a.xcvCount := by
  unfold kpdStep kpdScan kpdDebounce; repeat' split
  all_goals rfl
@[simp] theorem kpdStep_dispCount (S a : State) : (kpdStep S a).dispCount = a.dispCount := by
  unfold kpdStep kpdScan kpdDebounce; repeat' split
  all_goals rfl
@[simp] theorem kpdStep_tagUidlen (S a : State) : (kpdStep S a).tagUidlen = a.tagUidlen := by
  unfold kpdStep kpdScan kpdDebounce; repeat' split
  all_goals rfl
@[simp] theorem kpdStep_tagUid0 (S a : State) : (kpdStep S a).tagUid0 = a.tagUid0 := by
  unfold kpdStep kpdScan kpdDebounce; repeat' split
  all_goals rfl
@[simp] theorem kpdStep_tagUid1 (S a : State) : (kpdStep S a).tagUid1 = a.tagUid1 := by
  unfold kpdStep kpdScan kpdDebounce; repeat' split
  all_goals rfl
@[simp] theorem kpdStep_tagUid2 (S a : State) : (kpdStep S a).tagUid2 = a.tagUid2 := by
  unfold kpdStep kpdScan kpdDebounce; repeat' split
  all_goals rfl
@[simp] theorem kpdStep_tagData0 (S a : State) : (kpdStep S a).tagData0 = a.tagData0 := by
  unfold kpdStep kpdScan kpdDebounce; repeat' split
  all_goals rfl
@[simp] theorem kpdStep_tagData1 (S a : State) : (kpdStep S a).tagData1 = a.tagData1 := by
  unfold kpdStep kpdScan kpdDebounce; repeat' split
  all_goals rfl
@[simp] theorem kpdStep_tagData2 (S a : State) : (kpdStep S a).tagData2 = a.tagData2 := by
  unfold kpdStep kpdScan kpdDebounce; repeat' split
  all_goals rfl
@[simp] theorem kpdStep_tagData3 (S a : State) : (kpdStep S a).tagData3 = a.tagData3 := by
  unfold kpdStep kpdScan kpdDebounce; repeat' split
  all_goals rfl
@[simp] theorem kpdStep_ledger (S a : State) : (kpdStep S a).ledger = a.ledger := by
  unfold kpdStep kpdScan kpdDebounce; repeat' split
  all_goals rfl
@[simp] theorem kpdStep_colPrev (S a : State) : (kpdStep S a).colPrev = a.colPrev := by
  unfold kpdStep kpdScan kpdDebounce; repeat' split
  all_goals rfl
@[simp] theorem kpdStep_rowPrev (S a : State) : (kpdStep S a).rowPrev = a.rowPrev := by
  unfold kpdStep kpdScan kpdDebounce; repeat' split
  all_goals rfl
@[simp] theorem kpdStep_tagState (S a : State) : (kpdStep S a).tagState = a.tagState := by
  unfold kpdStep kpdScan kpdDebounce; repeat' split
  all_goals rfl
@[simp] theorem kpdStep_rdPend (S a : State) : (kpdStep S a).rdPend = a.rdPend := by
  unfold kpdStep kpdScan kpdDebounce; repeat' split
  all_goals rfl
@[simp] theorem kpdStep_rdIssue (S a : State) : (kpdStep S a).rdIssue = a.rdIssue := by
  unfold kpdStep kpdScan kpdDebounce; repeat' split
  all_goals rfl
@[simp] theorem kpdStep_rdOp (S a : State) : (kpdStep S a).rdOp = a.rdOp := by
  unfold kpdStep kpdScan kpdDebounce; repeat' split
  all_goals rfl
@[simp] theorem kpdStep_rdAbortQ (S a : State) : (kpdStep S a).rdAbortQ = a.rdAbortQ := by
  unfold kpdStep kpdScan kpdDebounce; repeat' split
  all_goals rfl
@[simp] theorem kpdStep_uidSh (S a : State) : (kpdStep S a).uidSh = a.uidSh := by
  unfold kpdStep kpdScan kpdDebounce; repeat' split
  all_goals rfl
@[simp] theorem kpdStep_uidlenSh (S a : State) : (kpdStep S a).uidlenSh = a.uidlenSh := by
  unfold kpdStep kpdScan kpdDebounce; repeat' split
  all_goals rfl
@[simp] theorem kpdStep_pinPrev (S a : State) : (kpdStep S a).pinPrev = a.pinPrev := by
  unfold kpdStep kpdScan kpdDebounce; repeat' split
  all_goals rfl
@[simp] theorem kpdStep_fccState (S a : State) : (kpdStep S a).fccState = a.fccState := by
  unfold kpdStep kpdScan kpdDebounce; repeat' split
  all_goals rfl
@[simp] theorem kpdStep_flIssue (S a : State) : (kpdStep S a).flIssue = a.flIssue := by
  unfold kpdStep kpdScan kpdDebounce; repeat' split
  all_goals rfl
@[simp] theorem kpdStep_flOp (S a : State) : (kpdStep S a).flOp = a.flOp := by
  unfold kpdStep kpdScan kpdDebounce; repeat' split
  all_goals rfl
@[simp] theorem kpdStep_flPend (S a : State) : (kpdStep S a).flPend = a.flPend := by
  unfold kpdStep kpdScan kpdDebounce; repeat' split
  all_goals rfl
@[simp] theorem kpdStep_presc (S a : State) : (kpdStep S a).presc = a.presc := by
  unfold kpdStep kpdScan kpdDebounce; repeat' split
  all_goals rfl
@[simp] theorem kpdStep_busRdata (S a : State) : (kpdStep S a).busRdata = a.busRdata := by
  unfold kpdStep kpdScan kpdDebounce; repeat' split
  all_goals rfl
@[simp] theorem kpdStep_busErr (S a : State) : (kpdStep S a).busErr = a.busErr := by
  unfold kpdStep kpdScan kpdDebounce; repeat' split
  all_goals rfl
@[simp] theorem kpdStep_flash (S a : State) : (kpdStep S a).flash = a.flash := by
  unfold kpdStep kpdScan kpdDebounce; repeat' split
  all_goals rfl
@[simp] theorem kpdStep_freeIdx (S a : State) : (kpdStep S a).freeIdx = a.freeIdx := by
  unfold kpdStep kpdScan kpdDebounce; repeat' split
  all_goals rfl
@[simp] theorem kpdStep_inputs (S a : State) : (kpdStep S a).inputs = a.inputs := by
  unfold kpdStep kpdScan kpdDebounce; repeat' split
  all_goals rfl
@[simp] theorem kpdStep_params (S a : State) : (kpdStep S a).params = a.params := by
  unfold kpdStep kpdScan kpdDebounce; repeat' split
  all_goals rfl

@[simp] theorem tagPoll_ctrl (S a : State) : (tagPoll S a).ctrl = a.ctrl := by
  unfold tagPoll; repeat' split
  all_goals rfl
@[simp] theorem tagPoll_sticky (S a : State) : (tagPoll S a).sticky = a.sticky := by
  unfold tagPoll; repeat' split
  all_goals rfl
@[simp] theorem tagPoll_flags (S a : State) : (tagPoll S a).flags = a.flags := by
  unfold tagPoll; repeat' split
  all_goals rfl
@[simp] theorem tagPoll_irqEn (S a : State) : (tagPoll S a).irqEn = a.irqEn := by
  unfold tagPoll; repeat' split
  all_goals rfl
@[simp] theorem tagPoll_keyCode (S a : State) : (tagPoll S a).keyCode = a.keyCode := by
  unfold tagPoll; repeat' split
  all_goals rfl
@[simp] theorem tagPoll_keyRow (S a : State) : (tagPoll S a).keyRow = a.keyRow := by
  unfold tagPoll; repeat' split
  all_goals rfl
@[simp] theorem tagPoll_keyCol (S a : State) : (tagPoll S a).keyCol = a.keyCol := by
  unfold tagPoll; repeat' split
  all_goals rfl
@[simp] theorem tagPoll_tagCause (S a : State) : (tagPoll S a).tagCause = a.tagCause := by
  unfold tagPoll; repeat' split
  all_goals rfl
@[simp] theorem tagPoll_cmdCause (S a : State) : (tagPoll S a).cmdCause = a.cmdCause := by
  unfold tagPoll; repeat' split
  all_goals rfl
@[simp] theorem tagPoll_busCause (S a : State) : (tagPoll S a).busCause = a.busCause := by
  unfold tagPoll; repeat' split
  all_goals rfl
@[simp] theorem tagPoll_dbPeriod (S a : State) : (tagPoll S a).dbPeriod = a.dbPeriod := by
  unfold tagPoll; repeat' split
  all_goals rfl
@[simp] theorem tagPoll_pollPeriod (S a : State) : (tagPoll S a).pollPeriod = a.pollPeriod := by
  unfold tagPoll; repeat' split
  all_goals rfl
@[simp] theorem tagPoll_xcvTimeout (S a : State) : (tagPoll S a).xcvTimeout = a.xcvTimeout := by
  unfold tagPoll; repeat' split
  all_goals rfl
@[simp] theorem tagPoll_dispPeriod (S a : State) : (tagPoll S a).dispPeriod = a.dispPeriod := by
  unfold tagPoll; repeat' split
  all_goals rfl
@[simp] theorem tagPoll_dbCount (S a : State) : (tagPoll S a).dbCount = a.dbCount := by
  unfold tagPoll; repeat' split
  all_goals rfl
@[simp] theorem tagPoll_xcvCount (S a : State) : (tagPoll S a).xcvCount = a.xcvCount := by
  unfold tagPoll; repeat' split
  all_goals rfl
@[simp] theorem tagPoll_dispCount (S a : State) : (tagPoll S a).dispCount = a.dispCount := by
  unfold tagPoll; repeat' split
  all_goals rfl
@[simp] theorem tagPoll_tagUidlen (S a : State) : (tagPoll S a).tagUidlen = a.tagUidlen := by
  unfold tagPoll; repeat' split
  all_goals rfl
@[simp] theorem tagPoll_tagUid0 (S a : State) : (tagPoll S a).tagUid0 = a.tagUid0 := by
  unfold tagPoll; repeat' split
  all_goals rfl
@[simp] theorem tagPoll_tagUid1 (S a : State) : (tagPoll S a).tagUid1 = a.tagUid1 := by
  unfold tagPoll; repeat' split
  all_goals rfl
@[simp] theorem tagPoll_tagUid2 (S a : State) : (tagPoll S a).tagUid2 = a.tagUid2 := by
  unfold tagPoll; repeat' split
  all_goals rfl
@[simp] theorem tagPoll_tagData0 (S a : State) : (tagPoll S a).tagData0 = a.tagData0 := by
  unfold tagPoll; repeat' split
  all_goals rfl
@[simp] theorem tagPoll_tagData1 (S a : State) : (tagPoll S a).tagData1 = a.tagData1 := by
  unfold tagPoll; repeat' split
  all_goals rfl
@[simp] theorem tagPoll_tagData2 (S a : State) : (tagPoll S a).tagData2 = a.tagData2 := by
  unfold tagPoll; repeat' split
  all_goals rfl
@[simp] theorem tagPoll_tagData3 (S a : State) : (tagPoll S a).tagData3 = a.tagData3 := by
  unfold tagPoll; repeat' split
  all_goals rfl
@[simp] theorem tagPoll_ledger (S a : State) : (tagPoll S a).ledger = a.ledger := by
  unfold tagPoll; repeat' split
  all_goals rfl
@[simp] theorem tagPoll_kpState (S a : State) : (tagPoll S a).kpState = a.kpState := by
  unfold tagPoll; repeat' split
  all_goals rfl
@[simp] theorem tagPoll_colPrev (S a : State) : (tagPoll S a).colPrev = a.colPrev := by
  unfold tagPoll; repeat' split
  all_goals rfl
@[simp] theorem tagPoll_rowPrev (S a : State) : (tagPoll S a).rowPrev = a.rowPrev := by
  unfold tagPoll; repeat' split
  all_goals rfl
@[simp] theorem tagPoll_tagState (S a : State) : (tagPoll S a).tagState = a.tagState := by
  unfold tagPoll; repeat' split
  all_goals rfl
@[simp] theorem tagPoll_rdPend (S a : State) : (tagPoll S a).rdPend = a.rdPend := by
  unfold tagPoll; repeat' split
  all_goals rfl
@[simp] theorem tagPoll_rdIssue (S a : State) : (tagPoll S a).rdIssue = a.rdIssue := by
  unfold tagPoll; repeat' split
  all_goals rfl
@[simp] theorem tagPoll_rdOp (S a : State) : (tagPoll S a).rdOp = a.rdOp := by
  unfold tagPoll; repeat' split
  all_goals rfl
@[simp] theorem tagPoll_rdAbortQ (S a : State) : (tagPoll S a).rdAbortQ = a.rdAbortQ := by
  unfold tagPoll; repeat' split
  all_goals rfl
@[simp] theorem tagPoll_uidSh (S a : State) : (tagPoll S a).uidSh = a.uidSh := by
  unfold tagPoll; repeat' split
  all_goals rfl
@[simp] theorem tagPoll_uidlenSh (S a : State) : (tagPoll S a).uidlenSh = a.uidlenSh := by
  unfold tagPoll; repeat' split
  all_goals rfl
@[simp] theorem tagPoll_pinPrev (S a : State) : (tagPoll S a).pinPrev = a.pinPrev := by
  unfold tagPoll; repeat' split
  all_goals rfl
@[simp] theorem tagPoll_fccState (S a : State) : (tagPoll S a).fccState = a.fccState := by
  unfold tagPoll; repeat' split
  all_goals rfl
@[simp] theorem tagPoll_flIssue (S a : State) : (tagPoll S a).flIssue = a.flIssue := by
  unfold tagPoll; repeat' split
  all_goals rfl
@[simp] theorem tagPoll_flOp (S a : State) : (tagPoll S a).flOp = a.flOp := by
  unfold tagPoll; repeat' split
  all_goals rfl
@[simp] theorem tagPoll_flPend (S a : State) : (tagPoll S a).flPend = a.flPend := by
  unfold tagPoll; repeat' split
  all_goals rfl
@[simp] theorem tagPoll_presc (S a : State) : (tagPoll S a).presc = a.presc := by
  unfold tagPoll; repeat' split
  all_goals rfl
@[simp] theorem tagPoll_busRdata (S a : State) : (tagPoll S a).busRdata = a.busRdata := by
  unfold tagPoll; repeat' split
  all_goals rfl
@[simp] theorem tagPoll_busErr (S a : State) : (tagPoll S a).busErr = a.busErr := by
  unfold tagPoll; repeat' split
  all_goals rfl
@[simp] theorem tagPoll_flash (S a : State) : (tagPoll S a).flash = a.flash := by
  unfold tagPoll; repeat' split
  all_goals rfl
@[simp] theorem tagPoll_freeIdx (S a : State) : (tagPoll S a).freeIdx = a.freeIdx := by
  unfold tagPoll; repeat' split
  all_goals rfl
@[simp] theorem tagPoll_inputs (S a : State) : (tagPoll S a).inputs = a.inputs := by
  unfold tagPoll; repeat' split
  all_goals rfl
@[simp] theorem tagPoll_params (S a : State) : (tagPoll S a).params = a.params := by
  unfold tagPoll; repeat' split
  all_goals rfl

@[simp] theorem tagTransceive_ctrl (S a : State) : (tagTransceive S a).ctrl = a.ctrl := by
  unfold tagTransceive; repeat' split
  all_goals rfl
@[simp] theorem tagTransceive_sticky (S a : State) : (tagTransceive S a).sticky = a.sticky := by
  unfold tagTransceive; repeat' split
  all_goals rfl
@[simp] theorem tagTransceive_flags (S a : State) : (tagTransceive S a).flags = a.flags := by
  unfold tagTransceive; repeat' split
  all_goals rfl
@[simp] theorem tagTransceive_irqEn (S a : State) : (tagTransceive S a).irqEn = a.irqEn := by
  unfold tagTransceive; repeat' split
  all_goals rfl
@[simp] theorem tagTransceive_keyCode (S a : State) : (tagTransceive S a).keyCode = a.keyCode := by
  unfold tagTransceive; repeat' split
  all_goals rfl
@[simp] theorem tagTransceive_keyRow (S a : State) : (tagTransceive S a).keyRow = a.keyRow := by
  unfold tagTransceive; repeat' split
  all_goals rfl
@[simp] theorem tagTransceive_keyCol (S a : State) : (tagTransceive S a).keyCol = a.keyCol := by
  unfold tagTransceive; repeat' split
  all_goals rfl
@[simp] theorem tagTransceive_tagCause (S a : State) : (tagTransceive S a).tagCause = a.tagCause := by
  unfold tagTransceive; repeat' split
  all_goals rfl
@[simp] theorem tagTransceive_cmdCause (S a : State) : (tagTransceive S a).cmdCause = a.cmdCause := by
  unfold tagTransceive; repeat' split
  all_goals rfl
@[simp] theorem tagTransceive_busCause (S a : State) : (tagTransceive S a).busCause = a.busCause := by
  unfold tagTransceive; repeat' split
  all_goals rfl
@[simp] theorem tagTransceive_dbPeriod (S a : State) : (tagTransceive S a).dbPeriod = a.dbPeriod := by
  unfold tagTransceive; repeat' split
  all_goals rfl
@[simp] theorem tagTransceive_pollPeriod (S a : State) : (tagTransceive S a).pollPeriod = a.pollPeriod := by
  unfold tagTransceive; repeat' split
  all_goals rfl
@[simp] theorem tagTransceive_xcvTimeout (S a : State) : (tagTransceive S a).xcvTimeout = a.xcvTimeout := by
  unfold tagTransceive; repeat' split
  all_goals rfl
@[simp] theorem tagTransceive_dispPeriod (S a : State) : (tagTransceive S a).dispPeriod = a.dispPeriod := by
  unfold tagTransceive; repeat' split
  all_goals rfl
@[simp] theorem tagTransceive_dbCount (S a : State) : (tagTransceive S a).dbCount = a.dbCount := by
  unfold tagTransceive; repeat' split
  all_goals rfl
@[simp] theorem tagTransceive_pollCount (S a : State) : (tagTransceive S a).pollCount = a.pollCount := by
  unfold tagTransceive; repeat' split
  all_goals rfl
@[simp] theorem tagTransceive_dispCount (S a : State) : (tagTransceive S a).dispCount = a.dispCount := by
  unfold tagTransceive; repeat' split
  all_goals rfl
@[simp] theorem tagTransceive_tagUidlen (S a : State) : (tagTransceive S a).tagUidlen = a.tagUidlen := by
  unfold tagTransceive; repeat' split
  all_goals rfl
@[simp] theorem tagTransceive_tagUid0 (S a : State) : (tagTransceive S a).tagUid0 = a.tagUid0 := by
  unfold tagTransceive; repeat' split
  all_goals rfl
@[simp] theorem tagTransceive_tagUid1 (S a : State) : (tagTransceive S a).tagUid1 = a.tagUid1 := by
  unfold tagTransceive; repeat' split
  all_goals rfl
@[simp] theorem tagTransceive_tagUid2 (S a : State) : (tagTransceive S a).tagUid2 = a.tagUid2 := by
  unfold tagTransceive; repeat' split
  all_goals rfl
@[simp] theorem tagTransceive_tagData0 (S a : State) : (tagTransceive S a).tagData0 = a.tagData0 := by
  unfold tagTransceive; repeat' split
  all_goals rfl
@[simp] theorem tagTransceive_tagData1 (S a : State) : (tagTransceive S a).tagData1 = a.tagData1 := by
  unfold tagTransceive; repeat' split
  all_goals rfl
@[simp] theorem tagTransceive_tagData2 (S a : State) : (tagTransceive S a).tagData2 = a.tagData2 := by
  unfold tagTransceive; repeat' split
  all_goals rfl
@[simp] theorem tagTransceive_tagData3 (S a : State) : (tagTransceive S a).tagData3 = a.tagData3 := by
  unfold tagTransceive; repeat' split
  all_goals rfl
@[simp] theorem tagTransceive_ledger (S a : State) : (tagTransceive S a).ledger = a.ledger := by
  unfold tagTransceive; repeat' split
  all_goals rfl
@[simp] theorem tagTransceive_kpState (S a : State) : (tagTransceive S a).kpState = a.kpState := by
  unfold tagTransceive; repeat' split
  all_goals rfl
@[simp] theorem tagTransceive_colPrev (S a : State) : (tagTransceive S a).colPrev = a.colPrev := by
  unfold tagTransceive; repeat' split
  all_goals rfl
@[simp] theorem tagTransceive_rowPrev (S a : State) : (tagTransceive S a).rowPrev = a.rowPrev := by
  unfold tagTransceive; repeat' split
  all_goals rfl
@[simp] theorem tagTransceive_tagState (S a : State) : (tagTransceive S a).tagState = a.tagState := by
  unfold tagTransceive; repeat' split
  all_goals rfl
@[simp] theorem tagTransceive_rdIssue (S a : State) : (tagTransceive S a).rdIssue = a.rdIssue := by
  unfold tagTransceive; repeat' split
  all_goals rfl
@[simp] theorem tagTransceive_rdOp (S a : State) : (tagTransceive S a).rdOp = a.rdOp := by
  unfold tagTransceive; repeat' split
  all_goals rfl
@[simp] theorem tagTransceive_uidSh (S a : State) : (tagTransceive S a).uidSh = a.uidSh := by
  unfold tagTransceive; repeat' split
  all_goals rfl
@[simp] theorem tagTransceive_uidlenSh (S a : State) : (tagTransceive S a).uidlenSh = a.uidlenSh := by
  unfold tagTransceive; repeat' split
  all_goals rfl
@[simp] theorem tagTransceive_pinPrev (S a : State) : (tagTransceive S a).pinPrev = a.pinPrev := by
  unfold tagTransceive; repeat' split
  all_goals rfl
@[simp] theorem tagTransceive_fccState (S a : State) : (tagTransceive S a).fccState = a.fccState := by
  unfold tagTransceive; repeat' split
  all_goals rfl
@[simp] theorem tagTransceive_flIssue (S a : State) : (tagTransceive S a).flIssue = a.flIssue := by
  unfold tagTransceive; repeat' split
  all_goals rfl
@[simp] theorem tagTransceive_flOp (S a : State) : (tagTransceive S a).flOp = a.flOp := by
  unfold tagTransceive; repeat' split
  all_goals rfl
@[simp] theorem tagTransceive_flPend (S a : State) : (tagTransceive S a).flPend = a.flPend := by
  unfold tagTransceive; repeat' split
  all_goals rfl
@[simp] theorem tagTransceive_presc (S a : State) : (tagTransceive S a).presc = a.presc := by
  unfold tagTransceive; repeat' split
  all_goals rfl
@[simp] theorem tagTransceive_busRdata (S a : State) : (tagTransceive S a).busRdata = a.busRdata := by
  unfold tagTransceive; repeat' split
  all_goals rfl
@[simp] theorem tagTransceive_busErr (S a : State) : (tagTransceive S a).busErr = a.busErr := by
  unfold tagTransceive; repeat' split
  all_goals rfl
@[simp] theorem tagTransceive_flash (S a : State) : (tagTransceive S a).flash = a.flash := by
  unfold tagTransceive; repeat' split
  all_goals rfl
@[simp] theorem tagTransceive_freeIdx (S a : State) : (tagTransceive S a).freeIdx = a.freeIdx := by
  unfold tagTransceive; repeat' split
  all_goals rfl
@[simp] theorem tagTransceive_inputs (S a : State) : (tagTransceive S a).inputs = a.inputs := by
  unfold tagTransceive; repeat' split
  all_goals rfl
@[simp] theorem tagTransceive_params (S a : State) : (tagTransceive S a).params = a.params := by
  unfold tagTransceive; repeat' split
  all_goals rfl

@[simp] theorem tagFsm_ctrl (S a : State) : (tagFsm S a).ctrl = a.ctrl := by
  unfold tagFsm; repeat' split
  all_goals rfl
@[simp] theorem tagFsm_irqEn (S a : State) : (tagFsm S a).irqEn = a.irqEn := by
  unfold tagFsm; repeat' split
  all_goals rfl
@[simp] theorem tagFsm_keyCode (S a : State) : (tagFsm S a).keyCode = a.keyCode := by
  unfold tagFsm; repeat' split
  all_goals rfl
@[simp] theorem tagFsm_keyRow (S a : State) : (tagFsm S a).keyRow = a.keyRow := by
  unfold tagFsm; repeat' split
  all_goals rfl
@[simp] theorem tagFsm_keyCol (S a : State) : (tagFsm S a).keyCol = a.keyCol := by
  unfold tagFsm; repeat' split
  all_goals rfl
@[simp] theorem tagFsm_cmdCause (S a : State) : (tagFsm S a).cmdCause = a.cmdCause := by
  unfold tagFsm; repeat' split
  all_goals rfl
@[simp] theorem tagFsm_busCause (S a : State) : (tagFsm S a).busCause = a.busCause := by
  unfold tagFsm; repeat' split
  all_goals rfl
@[simp] theorem tagFsm_dbPeriod (S a : State) : (tagFsm S a).dbPeriod = a.dbPeriod := by
  unfold tagFsm; repeat' split
  all_goals rfl
@[simp] theorem tagFsm_pollPeriod (S a : State) : (tagFsm S a).pollPeriod = a.pollPeriod := by
  unfold tagFsm; repeat' split
  all_goals rfl
@[simp] theorem tagFsm_xcvTimeout (S a : State) : (tagFsm S a).xcvTimeout = a.xcvTimeout := by
  unfold tagFsm; repeat' split
  all_goals rfl
@[simp] theorem tagFsm_dispPeriod (S a : State) : (tagFsm S a).dispPeriod = a.dispPeriod := by
  unfold tagFsm; repeat' split
  all_goals rfl
@[simp] theorem tagFsm_dbCount (S a : State) : (tagFsm S a).dbCount = a.dbCount := by
  unfold tagFsm; repeat' split
  all_goals rfl
@[simp] theorem tagFsm_pollCount (S a : State) : (tagFsm S a).pollCount = a.pollCount := by
  unfold tagFsm; repeat' split
  all_goals rfl
@[simp] theorem tagFsm_dispCount (S a : State) : (tagFsm S a).dispCount = a.dispCount := by
  unfold tagFsm; repeat' split
  all_goals rfl
@[simp] theorem tagFsm_ledger (S a : State) : (tagFsm S a).ledger = a.ledger := by
  unfold tagFsm; repeat' split
  all_goals rfl
@[simp] theorem tagFsm_kpState (S a : State) : (tagFsm S a).kpState = a.kpState := by
  unfold tagFsm; repeat' split
  all_goals rfl
@[simp] theorem tagFsm_colPrev (S a : State) : (tagFsm S a).colPrev = a.colPrev := by
  unfold tagFsm; repeat' split
  all_goals rfl
@[simp] theorem tagFsm_rowPrev (S a : State) : (tagFsm S a).rowPrev = a.rowPrev := by
  unfold tagFsm; repeat' split
  all_goals rfl
@[simp] theorem tagFsm_rdAbortQ (S a : State) : (tagFsm S a).rdAbortQ = a.rdAbortQ := by
  unfold tagFsm; repeat' split
  all_goals rfl
@[simp] theorem tagFsm_pinPrev (S a : State) : (tagFsm S a).pinPrev = a.pinPrev := by
  unfold tagFsm; repeat' split
  all_goals rfl
@[simp] theorem tagFsm_fccState (S a : State) : (tagFsm S a).fccState = a.fccState := by
  unfold tagFsm; repeat' split
  all_goals rfl
@[simp] theorem tagFsm_flIssue (S a : State) : (tagFsm S a).flIssue = a.flIssue := by
  unfold tagFsm; repeat' split
  all_goals rfl
@[simp] theorem tagFsm_flOp (S a : State) : (tagFsm S a).flOp = a.flOp := by
  unfold tagFsm; repeat' split
  all_goals rfl
@[simp] theorem tagFsm_flPend (S a : State) : (tagFsm S a).flPend = a.flPend := by
  unfold tagFsm; repeat' split
  all_goals rfl
@[simp] theorem tagFsm_presc (S a : State) : (tagFsm S a).presc = a.presc := by
  unfold tagFsm; repeat' split
  all_goals rfl
@[simp] theorem tagFsm_busRdata (S a : State) : (tagFsm S a).busRdata = a.busRdata := by
  unfold tagFsm; repeat' split
  all_goals rfl
@[simp] theorem tagFsm_busErr (S a : State) : (tagFsm S a).busErr = a.busErr := by
  unfold tagFsm; repeat' split
  all_goals rfl
@[simp] theorem tagFsm_flash (S a : State) : (tagFsm S a).flash = a.flash := by
  unfold tagFsm; repeat' split
  all_goals rfl
@[simp] theorem tagFsm_freeIdx (S a : State) : (tagFsm S a).freeIdx = a.freeIdx := by
  unfold tagFsm; repeat' split
  all_goals rfl
@[simp] theorem tagFsm_inputs (S a : State) : (tagFsm S a).inputs = a.inputs := by
  unfold tagFsm; repeat' split
  all_goals rfl
@[simp] theorem tagFsm_params (S a : State) : (tagFsm S a).params = a.params := by
  unfold tagFsm; repeat' split
  all_goals rfl

@[simp] theorem tagStep_ctrl (S a : State) : (tagStep S a).ctrl = a.ctrl := by
  unfold tagStep; split <;> simp
@[simp] theorem tagStep_irqEn (S a : State) : (tagStep S a).irqEn = a.irqEn := by
  unfold tagStep; split <;> simp
@[simp] theorem tagStep_keyCode (S a : State) : (tagStep S a).keyCode = a.keyCode := by
  unfold tagStep; split <;> simp
@[simp] theorem tagStep_keyRow (S a : State) : (tagStep S a).keyRow = a.keyRow := by
  unfold tagStep; split <;> simp
@[simp] theorem tagStep_keyCol (S a : State) : (tagStep S a).keyCol = a.keyCol := by
  unfold tagStep; split <;> simp
@[simp] theorem tagStep_cmdCause (S a : State) : (tagStep S a).cmdCause = a.cmdCause := by
  unfold tagStep; split <;> simp
@[simp] theorem tagStep_busCause (S a : State) : (tagStep S a).busCause = a.busCause := by
  unfold tagStep; split <;> simp
@[simp] theorem tagStep_dbPeriod (S a : State) : (tagStep S a).dbPeriod = a.dbPeriod := by
  unfold tagStep; split <;> simp
@[simp] theorem tagStep_pollPeriod (S a : State) : (tagStep S a).pollPeriod = a.pollPeriod := by
  unfold tagStep; split <;> simp
@[simp] theorem tagStep_xcvTimeout (S a : State) : (tagStep S a).xcvTimeout = a.xcvTimeout := by
  unfold tagStep; split <;> simp
@[simp] theorem tagStep_dispPeriod (S a : State) : (tagStep S a).dispPeriod = a.dispPeriod := by
  unfold tagStep; split <;> simp
@[simp] theorem tagStep_dbCount (S a : State) : (tagStep S a).dbCount = a.dbCount := by
  unfold tagStep; split <;> simp
@[simp] theorem tagStep_dispCount (S a : State) : (tagStep S a).dispCount = a.dispCount := by
  unfold tagStep; split <;> simp
@[simp] theorem tagStep_ledger (S a : State) : (tagStep S a).ledger = a.ledger := by
  unfold tagStep; split <;> simp
@[simp] theorem tagStep_kpState (S a : State) : (tagStep S a).kpState = a.kpState := by
  unfold tagStep; split <;> simp
@[simp] theorem tagStep_colPrev (S a : State) : (tagStep S a).colPrev = a.colPrev := by
  unfold tagStep; split <;> simp
@[simp] theorem tagStep_rowPrev (S a : State) : (tagStep S a).rowPrev = a.rowPrev := by
  unfold tagStep; split <;> simp
@[simp] theorem tagStep_pinPrev (S a : State) : (tagStep S a).pinPrev = a.pinPrev := by
  unfold tagStep; split <;> simp
@[simp] theorem tagStep_fccState (S a : State) : (tagStep S a).fccState = a.fccState := by
  unfold tagStep; split <;> simp
@[simp] theorem tagStep_flIssue (S a : State) : (tagStep S a).flIssue = a.flIssue := by
  unfold tagStep; split <;> simp
@[simp] theorem tagStep_flOp (S a : State) : (tagStep S a).flOp = a.flOp := by
  unfold tagStep; split <;> simp
@[simp] theorem tagStep_flPend (S a : State) : (tagStep S a).flPend = a.flPend := by
  unfold tagStep; split <;> simp
@[simp] theorem tagStep_presc (S a : State) : (tagStep S a).presc = a.presc := by
  unfold tagStep; split <;> simp
@[simp] theorem tagStep_busRdata (S a : State) : (tagStep S a).busRdata = a.busRdata := by
  unfold tagStep; split <;> simp
@[simp] theorem tagStep_busErr (S a : State) : (tagStep S a).busErr = a.busErr := by
  unfold tagStep; split <;> simp
@[simp] theorem tagStep_flash (S a : State) : (tagStep S a).flash = a.flash := by
  unfold tagStep; split <;> simp
@[simp] theorem tagStep_freeIdx (S a : State) : (tagStep S a).freeIdx = a.freeIdx := by
  unfold tagStep; split <;> simp
@[simp] theorem tagStep_inputs (S a : State) : (tagStep S a).inputs = a.inputs := by
  unfold tagStep; split <;> simp
@[simp] theorem tagStep_params (S a : State) : (tagStep S a).params = a.params := by
  unfold tagStep; split <;> simp

@[simp] theorem fccStep_ctrl (S a : State) : (fccStep S a).ctrl = a.ctrl := by
  unfold fccStep; repeat' split
  all_goals rfl
@[simp] theorem fccStep_sticky (S a : State) : (fccStep S a).sticky = a.sticky := by
  unfold fccStep; repeat' split
  all_goals rfl
@[simp] theorem fccStep_irqEn (S a : State) : (fccStep S a).irqEn = a.irqEn := by
  unfold fccStep; repeat' split
  all_goals rfl
@[simp] theorem fccStep_keyCode (S a : State) : (fccStep S a).keyCode = a.keyCode := by
  unfold fccStep; repeat' split
  all_goals rfl
@[simp] theorem fccStep_keyRow (S a : State) : (fccStep S a).keyRow = a.keyRow := by
  unfold fccStep; repeat' split
  all_goals rfl
@[simp] theorem fccStep_keyCol (S a : State) : (fccStep S a).keyCol = a.keyCol := by
  unfold fccStep; repeat' split
  all_goals rfl
@[simp] theorem fccStep_tagCause (S a : State) : (fccStep S a).tagCause = a.tagCause := by
  unfold fccStep; repeat' split
  all_goals rfl
@[simp] theorem fccStep_cmdCause (S a : State) : (fccStep S a).cmdCause = a.cmdCause := by
  unfold fccStep; repeat' split
  all_goals rfl
@[simp] theorem fccStep_busCause (S a : State) : (fccStep S a).busCause = a.busCause := by
  unfold fccStep; repeat' split
  all_goals rfl
@[simp] theorem fccStep_dbPeriod (S a : State) : (fccStep S a).dbPeriod = a.dbPeriod := by
  unfold fccStep; repeat' split
  all_goals rfl
@[simp] theorem fccStep_pollPeriod (S a : State) : (fccStep S a).pollPeriod = a.pollPeriod := by
  unfold fccStep; repeat' split
  all_goals rfl
@[simp] theorem fccStep_xcvTimeout (S a : State) : (fccStep S a).xcvTimeout = a.xcvTimeout := by
  unfold fccStep; repeat' split
  all_goals rfl
@[simp] theorem fccStep_dispPeriod (S a : State) : (fccStep S a).dispPeriod = a.dispPeriod := by
  unfold fccStep; repeat' split
  all_goals rfl
@[simp] theorem fccStep_dbCount (S a : State) : (fccStep S a).dbCount = a.dbCount := by
  unfold fccStep; repeat' split
  all_goals rfl
@[simp] theorem fccStep_pollCount (S a : State) : (fccStep S a).pollCount = a.pollCount := by
  unfold fccStep; repeat' split
  all_goals rfl
@[simp] theorem fccStep_xcvCount (S a : State) : (fccStep S a).xcvCount = a.xcvCount := by
  unfold fccStep; repeat' split
  all_goals rfl
@[simp] theorem fccStep_dispCount (S a : State) : (fccStep S a).dispCount = a.dispCount := by
  unfold fccStep; repeat' split
  all_goals rfl
@[simp] theorem fccStep_tagUidlen (S a : State) : (fccStep S a).tagUidlen = a.tagUidlen := by
  unfold fccStep; repeat' split
  all_goals rfl
@[simp] theorem fccStep_tagUid0 (S a : State) : (fccStep S a).tagUid0 = a.tagUid0 := by
  unfold fccStep; repeat' split
  all_goals rfl
@[simp] theorem fccStep_tagUid1 (S a : State) : (fccStep S a).tagUid1 = a.tagUid1 := by
  unfold fccStep; repeat' split
  all_goals rfl
@[simp] theorem fccStep_tagUid2 (S a : State) : (fccStep S a).tagUid2 = a.tagUid2 := by
  unfold fccStep; repeat' split
  all_goals rfl
@[simp] theorem fccStep_tagData0 (S a : State) : (fccStep S a).tagData0 = a.tagData0 := by
  unfold fccStep; repeat' split
  all_goals rfl
@[simp] theorem fccStep_tagData1 (S a : State) : (fccStep S a).tagData1 = a.tagData1 := by
  unfold fccStep; repeat' split
  all_goals rfl
@[simp] theorem fccStep_tagData2 (S a : State) : (fccStep S a).tagData2 = a.tagData2 := by
  unfold fccStep; repeat' split
  all_goals rfl
@[simp] theorem fccStep_tagData3 (S a : State) : (fccStep S a).tagData3 = a.tagData3 := by
  unfold fccStep; repeat' split
  all_goals rfl
@[simp] theorem fccStep_kpState (S a : State) : (fccStep S a).kpState = a.kpState := by
  unfold fccStep; repeat' split
  all_goals rfl
@[simp] theorem fccStep_colPrev (S a : State) : (fccStep S a).colPrev = a.colPrev := by
  unfold fccStep; repeat' split
  all_goals rfl
@[simp] theorem fccStep_rowPrev (S a : State) : (fccStep S a).rowPrev = a.rowPrev := by
  unfold fccStep; repeat' split
  all_goals rfl
@[simp] theorem fccStep_tagState (S a : State) : (fccStep S a).tagState = a.tagState := by
  unfold fccStep; repeat' split
  all_goals rfl
@[simp] theorem fccStep_rdPend (S a : State) : (fccStep S a).rdPend = a.rdPend := by
  unfold fccStep; repeat' split
  all_goals rfl
@[simp] theorem fccStep_rdIssue (S a : State) : (fccStep S a).rdIssue = a.rdIssue := by
  unfold fccStep; repeat' split
  all_goals rfl
@[simp] theorem fccStep_rdOp (S a : State) : (fccStep S a).rdOp = a.rdOp := by
  unfold fccStep; repeat' split
  all_goals rfl
@[simp] theorem fccStep_rdAbortQ (S a : State) : (fccStep S a).rdAbortQ = a.rdAbortQ := by
  unfold fccStep; repeat' split
  all_goals rfl
@[simp] theorem fccStep_uidSh (S a : State) : (fccStep S a).uidSh = a.uidSh := by
  unfold fccStep; repeat' split
  all_goals rfl
@[simp] theorem fccStep_uidlenSh (S a : State) : (fccStep S a).uidlenSh = a.uidlenSh := by
  unfold fccStep; repeat' split
  all_goals rfl
@[simp] theorem fccStep_pinPrev (S a : State) : (fccStep S a).pinPrev = a.pinPrev := by
  unfold fccStep; repeat' split
  all_goals rfl
@[simp] theorem fccStep_presc (S a : State) : (fccStep S a).presc = a.presc := by
  unfold fccStep; repeat' split
  all_goals rfl
@[simp] theorem fccStep_busRdata (S a : State) : (fccStep S a).busRdata = a.busRdata := by
  unfold fccStep; repeat' split
  all_goals rfl
@[simp] theorem fccStep_busErr (S a : State) : (fccStep S a).busErr = a.busErr := by
  unfold fccStep; repeat' split
  all_goals rfl
@[simp] theorem fccStep_freeIdx (S a : State) : (fccStep S a).freeIdx = a.freeIdx := by
  unfold fccStep; repeat' split
  all_goals rfl
@[simp] theorem fccStep_inputs (S a : State) : (fccStep S a).inputs = a.inputs := by
  unfold fccStep; repeat' split
  all_goals rfl
@[simp] theorem fccStep_params (S a : State) : (fccStep S a).params = a.params := by
  unfold fccStep; repeat' split
  all_goals rfl

@[simp] theorem dispStep_ctrl (S a : State) : (dispStep S a).ctrl = a.ctrl := by
  unfold dispStep; repeat' split
  all_goals rfl
@[simp] theorem dispStep_sticky (S a : State) : (dispStep S a).sticky = a.sticky := by
  unfold dispStep; repeat' split
  all_goals rfl
@[simp] theorem dispStep_irqEn (S a : State) : (dispStep S a).irqEn = a.irqEn := by
  unfold dispStep; repeat' split
  all_goals rfl
@[simp] theorem dispStep_keyCode (S a : State) : (dispStep S a).keyCode = a.keyCode := by
  unfold dispStep; repeat' split
  all_goals rfl
@[simp] theorem dispStep_keyRow (S a : State) : (dispStep S a).keyRow = a.keyRow := by
  unfold dispStep; repeat' split
  all_goals rfl
@[simp] theorem dispStep_keyCol (S a : State) : (dispStep S a).keyCol = a.keyCol := by
  unfold dispStep; repeat' split
  all_goals rfl
@[simp] theorem dispStep_tagCause (S a : State) : (dispStep S a).tagCause = a.tagCause := by
  unfold dispStep; repeat' split
  all_goals rfl
@[simp] theorem dispStep_cmdCause (S a : State) : (dispStep S a).cmdCause = a.cmdCause := by
  unfold dispStep; repeat' split
  all_goals rfl
@[simp] theorem dispStep_busCause (S a : State) : (dispStep S a).busCause = a.busCause := by
  unfold dispStep; repeat' split
  all_goals rfl
@[simp] theorem dispStep_dbPeriod (S a : State) : (dispStep S a).dbPeriod = a.dbPeriod := by
  unfold dispStep; repeat' split
  all_goals rfl
@[simp] theorem dispStep_pollPeriod (S a : State) : (dispStep S a).pollPeriod = a.pollPeriod := by
  unfold dispStep; repeat' split
  all_goals rfl
@[simp] theorem dispStep_xcvTimeout (S a : State) : (dispStep S a).xcvTimeout = a.xcvTimeout := by
  unfold dispStep; repeat' split
  all_goals rfl
@[simp] theorem dispStep_dispPeriod (S a : State) : (dispStep S a).dispPeriod = a.dispPeriod := by
  unfold dispStep; repeat' split
  all_goals rfl
@[simp] theorem dispStep_dbCount (S a : State) : (dispStep S a).dbCount = a.dbCount := by
  unfold dispStep; repeat' split
  all_goals rfl
@[simp] theorem dispStep_pollCount (S a : State) : (dispStep S a).pollCount = a.pollCount := by
  unfold dispStep; repeat' split
  all_goals rfl
@[simp] theorem dispStep_xcvCount (S a : State) : (dispStep S a).xcvCount = a.xcvCount := by
  unfold dispStep; repeat' split
  all_goals rfl
@[simp] theorem dispStep_tagUidlen (S a : State) : (dispStep S a).tagUidlen = a.tagUidlen := by
  unfold dispStep; repeat' split
  all_goals rfl
@[simp] theorem dispStep_tagUid0 (S a : State) : (dispStep S a).tagUid0 = a.tagUid0 := by
  unfold dispStep; repeat' split
  all_goals rfl
@[simp] theorem dispStep_tagUid1 (S a : State) : (dispStep S a).tagUid1 = a.tagUid1 := by
  unfold dispStep; repeat' split
  all_goals rfl
@[simp] theorem dispStep_tagUid2 (S a : State) : (dispStep S a).tagUid2 = a.tagUid2 := by
  unfold dispStep; repeat' split
  all_goals rfl
@[simp] theorem dispStep_tagData0 (S a : State) : (dispStep S a).tagData0 = a.tagData0 := by
  unfold dispStep; repeat' split
  all_goals rfl
@[simp] theorem dispStep_tagData1 (S a : State) : (dispStep S a).tagData1 = a.tagData1 := by
  unfold dispStep; repeat' split
  all_goals rfl
@[simp] theorem dispStep_tagData2 (S a : State) : (dispStep S a).tagData2 = a.tagData2 := by
  unfold dispStep; repeat' split
  all_goals rfl
@[simp] theorem dispStep_tagData3 (S a : State) : (dispStep S a).tagData3 = a.tagData3 := by
  unfold dispStep; repeat' split
  all_goals rfl
@[simp] theorem dispStep_ledger (S a : State) : (dispStep S a).ledger = a.ledger := by
  unfold dispStep; repeat' split
  all_goals rfl
@[simp] theorem dispStep_kpState (S a : State) : (dispStep S a).kpState = a.kpState := by
  unfold dispStep; repeat' split
  all_goals rfl
@[simp] theorem dispStep_colPrev (S a : State) : (dispStep S a).colPrev = a.colPrev := by
  unfold dispStep; repeat' split
  all_goals rfl
@[simp] theorem dispStep_rowPrev (S a : State) : (dispStep S a).rowPrev = a.rowPrev := by
  unfold dispStep; repeat' split
  all_goals rfl
@[simp] theorem dispStep_tagState (S a : State) : (dispStep S a).tagState = a.tagState := by
  unfold dispStep; repeat' split
  all_goals rfl
@[simp] theorem dispStep_rdPend (S a : State) : (dispStep S a).rdPend = a.rdPend := by
  unfold dispStep; repeat' split
  all_goals rfl
@[simp] theorem dispStep_rdIssue (S a : State) : (dispStep S a).rdIssue = a.rdIssue := by
  unfold dispStep; repeat' split
  all_goals rfl
@[simp] theorem dispStep_rdOp (S a : State) : (dispStep S a).rdOp = a.rdOp := by
  unfold dispStep; repeat' split
  all_goals rfl
@[simp] theorem dispStep_rdAbortQ (S a : State) : (dispStep S a).rdAbortQ = a.rdAbortQ := by
  unfold dispStep; repeat' split
  all_goals rfl
@[simp] theorem dispStep_uidSh (S a : State) : (dispStep S a).uidSh = a.uidSh := by
  unfold dispStep; repeat' split
  all_goals rfl
@[simp] theorem dispStep_uidlenSh (S a : State) : (dispStep S a).uidlenSh = a.uidlenSh := by
  unfold dispStep; repeat' split
  all_goals rfl
@[simp] theorem dispStep_pinPrev (S a : State) : (dispStep S a).pinPrev = a.pinPrev := by
  unfold dispStep; repeat' split
  all_goals rfl
@[simp] theorem dispStep_fccState (S a : State) : (dispStep S a).fccState = a.fccState := by
  unfold dispStep; repeat' split
  all_goals rfl
@[simp] theorem dispStep_flIssue (S a : State) : (dispStep S a).flIssue = a.flIssue := by
  unfold dispStep; repeat' split
  all_goals rfl
@[simp] theorem dispStep_flOp (S a : State) : (dispStep S a).flOp = a.flOp := by
  unfold dispStep; repeat' split
  all_goals rfl
@[simp] theorem dispStep_flPend (S a : State) : (dispStep S a).flPend = a.flPend := by
  unfold dispStep; repeat' split
  all_goals rfl
@[simp] theorem dispStep_presc (S a : State) : (dispStep S a).presc = a.presc := by
  unfold dispStep; repeat' split
  all_goals rfl
@[simp] theorem dispStep_busRdata (S a : State) : (dispStep S a).busRdata = a.busRdata := by
  unfold dispStep; repeat' split
  all_goals rfl
@[simp] theorem dispStep_busErr (S a : State) : (dispStep S a).busErr = a.busErr := by
  unfold dispStep; repeat' split
  all_goals rfl
@[simp] theorem dispStep_flash (S a : State) : (dispStep S a).flash = a.flash := by
  unfold dispStep; repeat' split
  all_goals rfl
@[simp] theorem dispStep_freeIdx (S a : State) : (dispStep S a).freeIdx = a.freeIdx := by
  unfold dispStep; repeat' split
  all_goals rfl
@[simp] theorem dispStep_inputs (S a : State) : (dispStep S a).inputs = a.inputs := by
  unfold dispStep; repeat' split
  all_goals rfl
@[simp] theorem dispStep_params (S a : State) : (dispStep S a).params = a.params := by
  unfold dispStep; repeat' split
  all_goals rfl

end Sys2Proof.Machine
end

