-- ==== Sys2Proof/Laws/Fields.lean ====
section
/-! SUPPORT. What a sub-step, and all sub-steps of a cycle together, leave in a field depends on that field alone of the state
they are laid on (but for the flash array). So a write of the host and the sub-steps commute on different fields. -/

namespace Sys2Proof.Machine

theorem kpdStep_kpState_congr (S : State) {a b : State} (h : a.kpState = b.kpState) : (kpdStep S a).kpState = (kpdStep S b).kpState := by
  unfold kpdStep kpdScan kpdDebounce; repeat' split
  all_goals first | rfl | exact h
theorem kpdStep_dbCount_congr (S : State) {a b : State} (h : a.dbCount = b.dbCount) : (kpdStep S a).dbCount = (kpdStep S b).dbCount := by
  unfold kpdStep kpdScan kpdDebounce; repeat' split
  all_goals first | rfl | exact h
theorem kpdStep_keyCode_congr (S : State) {a b : State} (h : a.keyCode = b.keyCode) : (kpdStep S a).keyCode = (kpdStep S b).keyCode := by
  unfold kpdStep kpdScan kpdDebounce; repeat' split
  all_goals first | rfl | exact h
theorem kpdStep_keyRow_congr (S : State) {a b : State} (h : a.keyRow = b.keyRow) : (kpdStep S a).keyRow = (kpdStep S b).keyRow := by
  unfold kpdStep kpdScan kpdDebounce; repeat' split
  all_goals first | rfl | exact h
theorem kpdStep_keyCol_congr (S : State) {a b : State} (h : a.keyCol = b.keyCol) : (kpdStep S a).keyCol = (kpdStep S b).keyCol := by
  unfold kpdStep kpdScan kpdDebounce; repeat' split
  all_goals first | rfl | exact h
theorem kpdStep_flags_congr (S : State) {a b : State} (h : a.flags = b.flags) : (kpdStep S a).flags = (kpdStep S b).flags := by
  unfold kpdStep kpdScan kpdDebounce; repeat' split
  all_goals simp [h]
theorem kpdStep_sticky_congr (S : State) {a b : State} (h : a.sticky = b.sticky) : (kpdStep S a).sticky = (kpdStep S b).sticky := by
  unfold kpdStep kpdScan kpdDebounce; repeat' split
  all_goals simp [h]

theorem tagPoll_pollCount_congr (S : State) {a b : State} (h : a.pollCount = b.pollCount) : (tagPoll S a).pollCount = (tagPoll S b).pollCount := by
  unfold tagPoll; repeat' split
  all_goals first | rfl | exact h

theorem tagTransceive_rdPend_congr (S : State) {a b : State} (h : a.rdPend = b.rdPend) : (tagTransceive S a).rdPend = (tagTransceive S b).rdPend := by
  unfold tagTransceive; repeat' split
  all_goals first | rfl | exact h
theorem tagTransceive_xcvCount_congr (S : State) {a b : State} (h : a.xcvCount = b.xcvCount) : (tagTransceive S a).xcvCount = (tagTransceive S b).xcvCount := by
  unfold tagTransceive; repeat' split
  all_goals first | rfl | exact h
theorem tagTransceive_rdAbortQ_congr (S : State) {a b : State} (h : a.rdAbortQ = b.rdAbortQ) : (tagTransceive S a).rdAbortQ = (tagTransceive S b).rdAbortQ := by
  unfold tagTransceive; repeat' split
  all_goals first | rfl | exact h

theorem tagFsm_rdOp_congr (S : State) {a b : State} (h : a.rdOp = b.rdOp) : (tagFsm S a).rdOp = (tagFsm S b).rdOp := by
  unfold tagFsm; repeat' split
  all_goals first | rfl | exact h
theorem tagFsm_rdIssue_congr (S : State) {a b : State} (h : a.rdIssue = b.rdIssue) : (tagFsm S a).rdIssue = (tagFsm S b).rdIssue := by
  unfold tagFsm; repeat' split
  all_goals first | rfl | exact h
theorem tagFsm_rdPend_congr (S : State) {a b : State} (h : a.rdPend = b.rdPend) : (tagFsm S a).rdPend = (tagFsm S b).rdPend := by
  unfold tagFsm; repeat' split
  all_goals first | rfl | exact h
theorem tagFsm_xcvCount_congr (S : State) {a b : State} (h : a.xcvCount = b.xcvCount) : (tagFsm S a).xcvCount = (tagFsm S b).xcvCount := by
  unfold tagFsm; repeat' split
  all_goals first | rfl | exact h
theorem tagFsm_tagState_congr (S : State) {a b : State} (h : a.tagState = b.tagState) : (tagFsm S a).tagState = (tagFsm S b).tagState := by
  unfold tagFsm; repeat' split
  all_goals first | rfl | exact h
theorem tagFsm_uidSh_congr (S : State) {a b : State} (h : a.uidSh = b.uidSh) : (tagFsm S a).uidSh = (tagFsm S b).uidSh := by
  unfold tagFsm; repeat' split
  all_goals first | rfl | exact h
theorem tagFsm_uidlenSh_congr (S : State) {a b : State} (h : a.uidlenSh = b.uidlenSh) : (tagFsm S a).uidlenSh = (tagFsm S b).uidlenSh := by
  unfold tagFsm; repeat' split
  all_goals first | rfl | exact h
theorem tagFsm_flags_congr (S : State) {a b : State} (h : a.flags = b.flags) : (tagFsm S a).flags = (tagFsm S b).flags := by
  unfold tagFsm; repeat' split
  all_goals simp [h]
theorem tagFsm_sticky_congr (S : State) {a b : State} (h : a.sticky = b.sticky) : (tagFsm S a).sticky = (tagFsm S b).sticky := by
  unfold tagFsm; repeat' split
  all_goals simp [h]
theorem tagFsm_tagCause_congr (S : State) {a b : State} (h : a.tagCause = b.tagCause) : (tagFsm S a).tagCause = (tagFsm S b).tagCause := by
  unfold tagFsm; repeat' split
  all_goals first | rfl | exact h
theorem tagFsm_tagUidlen_congr (S : State) {a b : State} (h : a.tagUidlen = b.tagUidlen) : (tagFsm S a).tagUidlen = (tagFsm S b).tagUidlen := by
  unfold tagFsm; repeat' split
  all_goals first | rfl | exact h
theorem tagFsm_tagUid0_congr (S : State) {a b : State} (h : a.tagUid0 = b.tagUid0) : (tagFsm S a).tagUid0 = (tagFsm S b).tagUid0 := by
  unfold tagFsm; repeat' split
  all_goals first | rfl | exact h
theorem tagFsm_tagUid1_congr (S : State) {a b : State} (h : a.tagUid1 = b.tagUid1) : (tagFsm S a).tagUid1 = (tagFsm S b).tagUid1 := by
  unfold tagFsm; repeat' split
  all_goals first | rfl | exact h
theorem tagFsm_tagUid2_congr (S : State) {a b : State} (h : a.tagUid2 = b.tagUid2) : (tagFsm S a).tagUid2 = (tagFsm S b).tagUid2 := by
  unfold tagFsm; repeat' split
  all_goals first | rfl | exact h
theorem tagFsm_tagData0_congr (S : State) {a b : State} (h : a.tagData0 = b.tagData0) : (tagFsm S a).tagData0 = (tagFsm S b).tagData0 := by
  unfold tagFsm; repeat' split
  all_goals first | rfl | exact h
theorem tagFsm_tagData1_congr (S : State) {a b : State} (h : a.tagData1 = b.tagData1) : (tagFsm S a).tagData1 = (tagFsm S b).tagData1 := by
  unfold tagFsm; repeat' split
  all_goals first | rfl | exact h
theorem tagFsm_tagData2_congr (S : State) {a b : State} (h : a.tagData2 = b.tagData2) : (tagFsm S a).tagData2 = (tagFsm S b).tagData2 := by
  unfold tagFsm; repeat' split
  all_goals first | rfl | exact h
theorem tagFsm_tagData3_congr (S : State) {a b : State} (h : a.tagData3 = b.tagData3) : (tagFsm S a).tagData3 = (tagFsm S b).tagData3 := by
  unfold tagFsm; repeat' split
  all_goals first | rfl | exact h

theorem tagStep_rdOp_congr (S : State) {a b : State} (h : a.rdOp = b.rdOp) : (tagStep S a).rdOp = (tagStep S b).rdOp := by
  unfold tagStep; split
  · exact h
  · exact tagFsm_rdOp_congr S ((tagTransceive_rdOp S _).trans (((tagPoll_rdOp S _).trans (h.trans (tagPoll_rdOp S _).symm)).trans (tagTransceive_rdOp S _).symm))
theorem tagStep_rdIssue_congr (S : State) {a b : State} (h : a.rdIssue = b.rdIssue) : (tagStep S a).rdIssue = (tagStep S b).rdIssue := by
  unfold tagStep; split
  · exact h
  · exact tagFsm_rdIssue_congr S ((tagTransceive_rdIssue S _).trans (((tagPoll_rdIssue S _).trans (h.trans (tagPoll_rdIssue S _).symm)).trans (tagTransceive_rdIssue S _).symm))
theorem tagStep_rdPend_congr (S : State) {a b : State} (h : a.rdPend = b.rdPend) : (tagStep S a).rdPend = (tagStep S b).rdPend := by
  unfold tagStep; split
  · rfl
  · exact tagFsm_rdPend_congr S (tagTransceive_rdPend_congr S ((tagPoll_rdPend S _).trans (h.trans (tagPoll_rdPend S _).symm)))
theorem tagStep_xcvCount_congr (S : State) {a b : State} (h : a.xcvCount = b.xcvCount) : (tagStep S a).xcvCount = (tagStep S b).xcvCount := by
  unfold tagStep; split
  · rfl
  · exact tagFsm_xcvCount_congr S (tagTransceive_xcvCount_congr S ((tagPoll_xcvCount S _).trans (h.trans (tagPoll_xcvCount S _).symm)))
theorem tagStep_rdAbortQ_congr (S : State) {a b : State} (h : a.rdAbortQ = b.rdAbortQ) : (tagStep S a).rdAbortQ = (tagStep S b).rdAbortQ := by
  unfold tagStep; split
  · rfl
  · exact (tagFsm_rdAbortQ S _).trans ((tagTransceive_rdAbortQ_congr S ((tagPoll_rdAbortQ S _).trans (h.trans (tagPoll_rdAbortQ S _).symm))).trans (tagFsm_rdAbortQ S _).symm)
theorem tagStep_tagState_congr (S : State) {a b : State} (h : a.tagState = b.tagState) : (tagStep S a).tagState = (tagStep S b).tagState := by
  unfold tagStep; split
  · rfl
  · exact tagFsm_tagState_congr S ((tagTransceive_tagState S _).trans (((tagPoll_tagState S _).trans (h.trans (tagPoll_tagState S _).symm)).trans (tagTransceive_tagState S _).symm))
theorem tagStep_pollCount_congr (S : State) {a b : State} (h : a.pollCount = b.pollCount) : (tagStep S a).pollCount = (tagStep S b).pollCount := by
  unfold tagStep; split
  · rfl
  · exact (tagFsm_pollCount S _).trans (((tagTransceive_pollCount S _).trans ((tagPoll_pollCount_congr S h).trans (tagTransceive_pollCount S _).symm)).trans (tagFsm_pollCount S _).symm)
theorem tagStep_uidSh_congr (S : State) {a b : State} (h : a.uidSh = b.uidSh) : (tagStep S a).uidSh = (tagStep S b).uidSh := by
  unfold tagStep; split
  · exact h
  · exact tagFsm_uidSh_congr S ((tagTransceive_uidSh S _).trans (((tagPoll_uidSh S _).trans (h.trans (tagPoll_uidSh S _).symm)).trans (tagTransceive_uidSh S _).symm))
theorem tagStep_uidlenSh_congr (S : State) {a b : State} (h : a.uidlenSh = b.uidlenSh) : (tagStep S a).uidlenSh = (tagStep S b).uidlenSh := by
  unfold tagStep; split
  · exact h
  · exact tagFsm_uidlenSh_congr S ((tagTransceive_uidlenSh S _).trans (((tagPoll_uidlenSh S _).trans (h.trans (tagPoll_uidlenSh S _).symm)).trans (tagTransceive_uidlenSh S _).symm))
theorem tagStep_flags_congr (S : State) {a b : State} (h : a.flags = b.flags) : (tagStep S a).flags = (tagStep S b).flags := by
  unfold tagStep; split
  · exact h
  · exact tagFsm_flags_congr S ((tagTransceive_flags S _).trans (((tagPoll_flags S _).trans (h.trans (tagPoll_flags S _).symm)).trans (tagTransceive_flags S _).symm))
theorem tagStep_sticky_congr (S : State) {a b : State} (h : a.sticky = b.sticky) : (tagStep S a).sticky = (tagStep S b).sticky := by
  unfold tagStep; split
  · exact h
  · exact tagFsm_sticky_congr S ((tagTransceive_sticky S _).trans (((tagPoll_sticky S _).trans (h.trans (tagPoll_sticky S _).symm)).trans (tagTransceive_sticky S _).symm))
theorem tagStep_tagCause_congr (S : State) {a b : State} (h : a.tagCause = b.tagCause) : (tagStep S a).tagCause = (tagStep S b).tagCause := by
  unfold tagStep; split
  · exact h
  · exact tagFsm_tagCause_congr S ((tagTransceive_tagCause S _).trans (((tagPoll_tagCause S _).trans (h.trans (tagPoll_tagCause S _).symm)).trans (tagTransceive_tagCause S _).symm))
theorem tagStep_tagUidlen_congr (S : State) {a b : State} (h : a.tagUidlen = b.tagUidlen) : (tagStep S a).tagUidlen = (tagStep S b).tagUidlen := by
  unfold tagStep; split
  · exact h
  · exact tagFsm_tagUidlen_congr S ((tagTransceive_tagUidlen S _).trans (((tagPoll_tagUidlen S _).trans (h.trans (tagPoll_tagUidlen S _).symm)).trans (tagTransceive_tagUidlen S _).symm))
theorem tagStep_tagUid0_congr (S : State) {a b : State} (h : a.tagUid0 = b.tagUid0) : (tagStep S a).tagUid0 = (tagStep S b).tagUid0 := by
  unfold tagStep; split
  · exact h
  · exact tagFsm_tagUid0_congr S ((tagTransceive_tagUid0 S _).trans (((tagPoll_tagUid0 S _).trans (h.trans (tagPoll_tagUid0 S _).symm)).trans (tagTransceive_tagUid0 S _).symm))
theorem tagStep_tagUid1_congr (S : State) {a b : State} (h : a.tagUid1 = b.tagUid1) : (tagStep S a).tagUid1 = (tagStep S b).tagUid1 := by
  unfold tagStep; split
  · exact h
  · exact tagFsm_tagUid1_congr S ((tagTransceive_tagUid1 S _).trans (((tagPoll_tagUid1 S _).trans (h.trans (tagPoll_tagUid1 S _).symm)).trans (tagTransceive_tagUid1 S _).symm))
theorem tagStep_tagUid2_congr (S : State) {a b : State} (h : a.tagUid2 = b.tagUid2) : (tagStep S a).tagUid2 = (tagStep S b).tagUid2 := by
  unfold tagStep; split
  · exact h
  · exact tagFsm_tagUid2_congr S ((tagTransceive_tagUid2 S _).trans (((tagPoll_tagUid2 S _).trans (h.trans (tagPoll_tagUid2 S _).symm)).trans (tagTransceive_tagUid2 S _).symm))
theorem tagStep_tagData0_congr (S : State) {a b : State} (h : a.tagData0 = b.tagData0) : (tagStep S a).tagData0 = (tagStep S b).tagData0 := by
  unfold tagStep; split
  · exact h
  · exact tagFsm_tagData0_congr S ((tagTransceive_tagData0 S _).trans (((tagPoll_tagData0 S _).trans (h.trans (tagPoll_tagData0 S _).symm)).trans (tagTransceive_tagData0 S _).symm))
theorem tagStep_tagData1_congr (S : State) {a b : State} (h : a.tagData1 = b.tagData1) : (tagStep S a).tagData1 = (tagStep S b).tagData1 := by
  unfold tagStep; split
  · exact h
  · exact tagFsm_tagData1_congr S ((tagTransceive_tagData1 S _).trans (((tagPoll_tagData1 S _).trans (h.trans (tagPoll_tagData1 S _).symm)).trans (tagTransceive_tagData1 S _).symm))
theorem tagStep_tagData2_congr (S : State) {a b : State} (h : a.tagData2 = b.tagData2) : (tagStep S a).tagData2 = (tagStep S b).tagData2 := by
  unfold tagStep; split
  · exact h
  · exact tagFsm_tagData2_congr S ((tagTransceive_tagData2 S _).trans (((tagPoll_tagData2 S _).trans (h.trans (tagPoll_tagData2 S _).symm)).trans (tagTransceive_tagData2 S _).symm))
theorem tagStep_tagData3_congr (S : State) {a b : State} (h : a.tagData3 = b.tagData3) : (tagStep S a).tagData3 = (tagStep S b).tagData3 := by
  unfold tagStep; split
  · exact h
  · exact tagFsm_tagData3_congr S ((tagTransceive_tagData3 S _).trans (((tagPoll_tagData3 S _).trans (h.trans (tagPoll_tagData3 S _).symm)).trans (tagTransceive_tagData3 S _).symm))

theorem fccStep_flOp_congr (S : State) {a b : State} (h : a.flOp = b.flOp) : (fccStep S a).flOp = (fccStep S b).flOp := by
  unfold fccStep; repeat' split
  all_goals first | rfl | exact h
theorem fccStep_flIssue_congr (S : State) {a b : State} (h : a.flIssue = b.flIssue) : (fccStep S a).flIssue = (fccStep S b).flIssue := by
  unfold fccStep; repeat' split
  all_goals first | rfl | exact h
theorem fccStep_flPend_congr (S : State) {a b : State} (h : a.flPend = b.flPend) : (fccStep S a).flPend = (fccStep S b).flPend := by
  unfold fccStep; repeat' split
  all_goals first | rfl | exact h
theorem fccStep_fccState_congr (S : State) {a b : State} (h : a.fccState = b.fccState) : (fccStep S a).fccState = (fccStep S b).fccState := by
  unfold fccStep; repeat' split
  all_goals first | rfl | exact h
theorem fccStep_ledger_congr (S : State) {a b : State} (h : a.ledger = b.ledger) : (fccStep S a).ledger = (fccStep S b).ledger := by
  unfold fccStep; repeat' split
  all_goals first | rfl | exact h
theorem fccStep_flags_congr (S : State) {a b : State} (h : a.flags = b.flags) : (fccStep S a).flags = (fccStep S b).flags := by
  unfold fccStep; repeat' split
  all_goals simp [h]

theorem dispStep_dispCount_congr (S : State) {a b : State} (h : a.dispCount = b.dispCount) : (dispStep S a).dispCount = (dispStep S b).dispCount := by
  unfold dispStep; repeat' split
  all_goals first | rfl | exact h
theorem dispStep_flags_congr (S : State) {a b : State} (h : a.flags = b.flags) : (dispStep S a).flags = (dispStep S b).flags := by
  unfold dispStep; repeat' split
  all_goals simp [h]

theorem finishCycle_ctrl_congr (S : State) {a b : State} (h : a.ctrl = b.ctrl) :
    (finishCycle S a).ctrl = (finishCycle S b).ctrl := by
  simp [finishCycle, subUnits, h]
theorem finishCycle_sticky_congr (S : State) {a b : State} (h : a.sticky = b.sticky) :
    (finishCycle S a).sticky = (finishCycle S b).sticky := by
  exact (dispStep_sticky S _).trans (((fccStep_sticky S _).trans ((tagStep_sticky_congr S (kpdStep_sticky_congr S h)).trans (fccStep_sticky S _).symm)).trans (dispStep_sticky S _).symm)
theorem finishCycle_flags_congr (S : State) {a b : State} (h : a.flags = b.flags) :
    (finishCycle S a).flags = (finishCycle S b).flags := by
  exact dispStep_flags_congr S (fccStep_flags_congr S (tagStep_flags_congr S (kpdStep_flags_congr S h)))
theorem finishCycle_irqEn_congr (S : State) {a b : State} (h : a.irqEn = b.irqEn) :
    (finishCycle S a).irqEn = (finishCycle S b).irqEn := by
  simp [finishCycle, subUnits, h]
theorem finishCycle_keyCode_congr (S : State) {a b : State} (h : a.keyCode = b.keyCode) :
    (finishCycle S a).keyCode = (finishCycle S b).keyCode := by
  exact (dispStep_keyCode S _).trans (((fccStep_keyCode S _).trans (((tagStep_keyCode S _).trans ((kpdStep_keyCode_congr S h).trans (tagStep_keyCode S _).symm)).trans (fccStep_keyCode S _).symm)).trans (dispStep_keyCode S _).symm)
theorem finishCycle_keyRow_congr (S : State) {a b : State} (h : a.keyRow = b.keyRow) :
    (finishCycle S a).keyRow = (finishCycle S b).keyRow := by
  exact (dispStep_keyRow S _).trans (((fccStep_keyRow S _).trans (((tagStep_keyRow S _).trans ((kpdStep_keyRow_congr S h).trans (tagStep_keyRow S _).symm)).trans (fccStep_keyRow S _).symm)).trans (dispStep_keyRow S _).symm)
theorem finishCycle_keyCol_congr (S : State) {a b : State} (h : a.keyCol = b.keyCol) :
    (finishCycle S a).keyCol = (finishCycle S b).keyCol := by
  exact (dispStep_keyCol S _).trans (((fccStep_keyCol S _).trans (((tagStep_keyCol S _).trans ((kpdStep_keyCol_congr S h).trans (tagStep_keyCol S _).symm)).trans (fccStep_keyCol S _).symm)).trans (dispStep_keyCol S _).symm)
theorem finishCycle_tagCause_congr (S : State) {a b : State} (h : a.tagCause = b.tagCause) :
    (finishCycle S a).tagCause = (finishCycle S b).tagCause := by
  exact (dispStep_tagCause S _).trans (((fccStep_tagCause S _).trans ((tagStep_tagCause_congr S ((kpdStep_tagCause S _).trans (h.trans (kpdStep_tagCause S _).symm))).trans (fccStep_tagCause S _).symm)).trans (dispStep_tagCause S _).symm)
theorem finishCycle_cmdCause_congr (S : State) {a b : State} (h : a.cmdCause = b.cmdCause) :
    (finishCycle S a).cmdCause = (finishCycle S b).cmdCause := by
  simp [finishCycle, subUnits, h]
theorem finishCycle_busCause_congr (S : State) {a b : State} (h : a.busCause = b.busCause) :
    (finishCycle S a).busCause = (finishCycle S b).busCause := by
  simp [finishCycle, subUnits, h]
theorem finishCycle_dbPeriod_congr (S : State) {a b : State} (h : a.dbPeriod = b.dbPeriod) :
    (finishCycle S a).dbPeriod = (finishCycle S b).dbPeriod := by
  simp [finishCycle, subUnits, h]
theorem finishCycle_pollPeriod_congr (S : State) {a b : State} (h : a.pollPeriod = b.pollPeriod) :
    (finishCycle S a).pollPeriod = (finishCycle S b).pollPeriod := by
  simp [finishCycle, subUnits, h]
theorem finishCycle_xcvTimeout_congr (S : State) {a b : State} (h : a.xcvTimeout = b.xcvTimeout) :
    (finishCycle S a).xcvTimeout = (finishCycle S b).xcvTimeout := by
  simp [finishCycle, subUnits, h]
theorem finishCycle_dispPeriod_congr (S : State) {a b : State} (h : a.dispPeriod = b.dispPeriod) :
    (finishCycle S a).dispPeriod = (finishCycle S b).dispPeriod := by
  simp [finishCycle, subUnits, h]
theorem finishCycle_dbCount_congr (S : State) {a b : State} (h : a.dbCount = b.dbCount) :
    (finishCycle S a).dbCount = (finishCycle S b).dbCount := by
  exact (dispStep_dbCount S _).trans (((fccStep_dbCount S _).trans (((tagStep_dbCount S _).trans ((kpdStep_dbCount_congr S h).trans (tagStep_dbCount S _).symm)).trans (fccStep_dbCount S _).symm)).trans (dispStep_dbCount S _).symm)
theorem finishCycle_pollCount_congr (S : State) {a b : State} (h : a.pollCount = b.pollCount) :
    (finishCycle S a).pollCount = (finishCycle S b).pollCount := by
  exact (dispStep_pollCount S _).trans (((fccStep_pollCount S _).trans ((tagStep_pollCount_congr S ((kpdStep_pollCount S _).trans (h.trans (kpdStep_pollCount S _).symm))).trans (fccStep_pollCount S _).symm)).trans (dispStep_pollCount S _).symm)
theorem finishCycle_xcvCount_congr (S : State) {a b : State} (h : a.xcvCount = b.xcvCount) :
    (finishCycle S a).xcvCount = (finishCycle S b).xcvCount := by
  exact (dispStep_xcvCount S _).trans (((fccStep_xcvCount S _).trans ((tagStep_xcvCount_congr S ((kpdStep_xcvCount S _).trans (h.trans (kpdStep_xcvCount S _).symm))).trans (fccStep_xcvCount S _).symm)).trans (dispStep_xcvCount S _).symm)
theorem finishCycle_dispCount_congr (S : State) {a b : State} (h : a.dispCount = b.dispCount) :
    (finishCycle S a).dispCount = (finishCycle S b).dispCount := by
  exact dispStep_dispCount_congr S ((fccStep_dispCount S _).trans (((tagStep_dispCount S _).trans (((kpdStep_dispCount S _).trans (h.trans (kpdStep_dispCount S _).symm)).trans (tagStep_dispCount S _).symm)).trans (fccStep_dispCount S _).symm))
theorem finishCycle_tagUidlen_congr (S : State) {a b : State} (h : a.tagUidlen = b.tagUidlen) :
    (finishCycle S a).tagUidlen = (finishCycle S b).tagUidlen := by
  exact (dispStep_tagUidlen S _).trans (((fccStep_tagUidlen S _).trans ((tagStep_tagUidlen_congr S ((kpdStep_tagUidlen S _).trans (h.trans (kpdStep_tagUidlen S _).symm))).trans (fccStep_tagUidlen S _).symm)).trans (dispStep_tagUidlen S _).symm)
theorem finishCycle_tagUid0_congr (S : State) {a b : State} (h : a.tagUid0 = b.tagUid0) :
    (finishCycle S a).tagUid0 = (finishCycle S b).tagUid0 := by
  exact (dispStep_tagUid0 S _).trans (((fccStep_tagUid0 S _).trans ((tagStep_tagUid0_congr S ((kpdStep_tagUid0 S _).trans (h.trans (kpdStep_tagUid0 S _).symm))).trans (fccStep_tagUid0 S _).symm)).trans (dispStep_tagUid0 S _).symm)
theorem finishCycle_tagUid1_congr (S : State) {a b : State} (h : a.tagUid1 = b.tagUid1) :
    (finishCycle S a).tagUid1 = (finishCycle S b).tagUid1 := by
  exact (dispStep_tagUid1 S _).trans (((fccStep_tagUid1 S _).trans ((tagStep_tagUid1_congr S ((kpdStep_tagUid1 S _).trans (h.trans (kpdStep_tagUid1 S _).symm))).trans (fccStep_tagUid1 S _).symm)).trans (dispStep_tagUid1 S _).symm)
theorem finishCycle_tagUid2_congr (S : State) {a b : State} (h : a.tagUid2 = b.tagUid2) :
    (finishCycle S a).tagUid2 = (finishCycle S b).tagUid2 := by
  exact (dispStep_tagUid2 S _).trans (((fccStep_tagUid2 S _).trans ((tagStep_tagUid2_congr S ((kpdStep_tagUid2 S _).trans (h.trans (kpdStep_tagUid2 S _).symm))).trans (fccStep_tagUid2 S _).symm)).trans (dispStep_tagUid2 S _).symm)
theorem finishCycle_tagData0_congr (S : State) {a b : State} (h : a.tagData0 = b.tagData0) :
    (finishCycle S a).tagData0 = (finishCycle S b).tagData0 := by
  exact (dispStep_tagData0 S _).trans (((fccStep_tagData0 S _).trans ((tagStep_tagData0_congr S ((kpdStep_tagData0 S _).trans (h.trans (kpdStep_tagData0 S _).symm))).trans (fccStep_tagData0 S _).symm)).trans (dispStep_tagData0 S _).symm)
theorem finishCycle_tagData1_congr (S : State) {a b : State} (h : a.tagData1 = b.tagData1) :
    (finishCycle S a).tagData1 = (finishCycle S b).tagData1 := by
  exact (dispStep_tagData1 S _).trans (((fccStep_tagData1 S _).trans ((tagStep_tagData1_congr S ((kpdStep_tagData1 S _).trans (h.trans (kpdStep_tagData1 S _).symm))).trans (fccStep_tagData1 S _).symm)).trans (dispStep_tagData1 S _).symm)
theorem finishCycle_tagData2_congr (S : State) {a b : State} (h : a.tagData2 = b.tagData2) :
    (finishCycle S a).tagData2 = (finishCycle S b).tagData2 := by
  exact (dispStep_tagData2 S _).trans (((fccStep_tagData2 S _).trans ((tagStep_tagData2_congr S ((kpdStep_tagData2 S _).trans (h.trans (kpdStep_tagData2 S _).symm))).trans (fccStep_tagData2 S _).symm)).trans (dispStep_tagData2 S _).symm)
theorem finishCycle_tagData3_congr (S : State) {a b : State} (h : a.tagData3 = b.tagData3) :
    (finishCycle S a).tagData3 = (finishCycle S b).tagData3 := by
  exact (dispStep_tagData3 S _).trans (((fccStep_tagData3 S _).trans ((tagStep_tagData3_congr S ((kpdStep_tagData3 S _).trans (h.trans (kpdStep_tagData3 S _).symm))).trans (fccStep_tagData3 S _).symm)).trans (dispStep_tagData3 S _).symm)
theorem finishCycle_ledger_congr (S : State) {a b : State} (h : a.ledger = b.ledger) :
    (finishCycle S a).ledger = (finishCycle S b).ledger := by
  exact (dispStep_ledger S _).trans ((fccStep_ledger_congr S ((tagStep_ledger S _).trans (((kpdStep_ledger S _).trans (h.trans (kpdStep_ledger S _).symm)).trans (tagStep_ledger S _).symm))).trans (dispStep_ledger S _).symm)
theorem finishCycle_kpState_congr (S : State) {a b : State} (h : a.kpState = b.kpState) :
    (finishCycle S a).kpState = (finishCycle S b).kpState := by
  exact (dispStep_kpState S _).trans (((fccStep_kpState S _).trans (((tagStep_kpState S _).trans ((kpdStep_kpState_congr S h).trans (tagStep_kpState S _).symm)).trans (fccStep_kpState S _).symm)).trans (dispStep_kpState S _).symm)
theorem finishCycle_colPrev_congr (S : State) {a b : State} : (finishCycle S a).colPrev = (finishCycle S b).colPrev := rfl
theorem finishCycle_rowPrev_congr (S : State) {a b : State} : (finishCycle S a).rowPrev = (finishCycle S b).rowPrev := rfl
theorem finishCycle_tagState_congr (S : State) {a b : State} (h : a.tagState = b.tagState) :
    (finishCycle S a).tagState = (finishCycle S b).tagState := by
  exact (dispStep_tagState S _).trans (((fccStep_tagState S _).trans ((tagStep_tagState_congr S ((kpdStep_tagState S _).trans (h.trans (kpdStep_tagState S _).symm))).trans (fccStep_tagState S _).symm)).trans (dispStep_tagState S _).symm)
theorem finishCycle_rdPend_congr (S : State) {a b : State} (h : a.rdPend = b.rdPend) :
    (finishCycle S a).rdPend = (finishCycle S b).rdPend := by
  exact (dispStep_rdPend S _).trans (((fccStep_rdPend S _).trans ((tagStep_rdPend_congr S ((kpdStep_rdPend S _).trans (h.trans (kpdStep_rdPend S _).symm))).trans (fccStep_rdPend S _).symm)).trans (dispStep_rdPend S _).symm)
theorem finishCycle_rdIssue_congr (S : State) {a b : State} (h : a.rdIssue = b.rdIssue) :
    (finishCycle S a).rdIssue = (finishCycle S b).rdIssue := by
  exact (dispStep_rdIssue S _).trans (((fccStep_rdIssue S _).trans ((tagStep_rdIssue_congr S ((kpdStep_rdIssue S _).trans (h.trans (kpdStep_rdIssue S _).symm))).trans (fccStep_rdIssue S _).symm)).trans (dispStep_rdIssue S _).symm)
theorem finishCycle_rdOp_congr (S : State) {a b : State} (h : a.rdOp = b.rdOp) :
    (finishCycle S a).rdOp = (finishCycle S b).rdOp := by
  exact (dispStep_rdOp S _).trans (((fccStep_rdOp S _).trans ((tagStep_rdOp_congr S ((kpdStep_rdOp S _).trans (h.trans (kpdStep_rdOp S _).symm))).trans (fccStep_rdOp S _).symm)).trans (dispStep_rdOp S _).symm)
theorem finishCycle_rdAbortQ_congr (S : State) {a b : State} (h : a.rdAbortQ = b.rdAbortQ) :
    (finishCycle S a).rdAbortQ = (finishCycle S b).rdAbortQ := by
  exact (dispStep_rdAbortQ S _).trans (((fccStep_rdAbortQ S _).trans ((tagStep_rdAbortQ_congr S ((kpdStep_rdAbortQ S _).trans (h.trans (kpdStep_rdAbortQ S _).symm))).trans (fccStep_rdAbortQ S _).symm)).trans (dispStep_rdAbortQ S _).symm)
theorem finishCycle_uidSh_congr (S : State) {a b : State} (h : a.uidSh = b.uidSh) :
    (finishCycle S a).uidSh = (finishCycle S b).uidSh := by
  exact (dispStep_uidSh S _).trans (((fccStep_uidSh S _).trans ((tagStep_uidSh_congr S ((kpdStep_uidSh S _).trans (h.trans (kpdStep_uidSh S _).symm))).trans (fccStep_uidSh S _).symm)).trans (dispStep_uidSh S _).symm)
theorem finishCycle_uidlenSh_congr (S : State) {a b : State} (h : a.uidlenSh = b.uidlenSh) :
    (finishCycle S a).uidlenSh = (finishCycle S b).uidlenSh := by
  exact (dispStep_uidlenSh S _).trans (((fccStep_uidlenSh S _).trans ((tagStep_uidlenSh_congr S ((kpdStep_uidlenSh S _).trans (h.trans (kpdStep_uidlenSh S _).symm))).trans (fccStep_uidlenSh S _).symm)).trans (dispStep_uidlenSh S _).symm)
theorem finishCycle_pinPrev_congr (S : State) {a b : State} : (finishCycle S a).pinPrev = (finishCycle S b).pinPrev := rfl
theorem finishCycle_fccState_congr (S : State) {a b : State} (h : a.fccState = b.fccState) :
    (finishCycle S a).fccState = (finishCycle S b).fccState := by
  exact (dispStep_fccState S _).trans ((fccStep_fccState_congr S ((tagStep_fccState S _).trans (((kpdStep_fccState S _).trans (h.trans (kpdStep_fccState S _).symm)).trans (tagStep_fccState S _).symm))).trans (dispStep_fccState S _).symm)
theorem finishCycle_flIssue_congr (S : State) {a b : State} (h : a.flIssue = b.flIssue) :
    (finishCycle S a).flIssue = (finishCycle S b).flIssue := by
  exact (dispStep_flIssue S _).trans ((fccStep_flIssue_congr S ((tagStep_flIssue S _).trans (((kpdStep_flIssue S _).trans (h.trans (kpdStep_flIssue S _).symm)).trans (tagStep_flIssue S _).symm))).trans (dispStep_flIssue S _).symm)
theorem finishCycle_flOp_congr (S : State) {a b : State} (h : a.flOp = b.flOp) :
    (finishCycle S a).flOp = (finishCycle S b).flOp := by
  exact (dispStep_flOp S _).trans ((fccStep_flOp_congr S ((tagStep_flOp S _).trans (((kpdStep_flOp S _).trans (h.trans (kpdStep_flOp S _).symm)).trans (tagStep_flOp S _).symm))).trans (dispStep_flOp S _).symm)
theorem finishCycle_flPend_congr (S : State) {a b : State} (h : a.flPend = b.flPend) :
    (finishCycle S a).flPend = (finishCycle S b).flPend := by
  exact (dispStep_flPend S _).trans ((fccStep_flPend_congr S ((tagStep_flPend S _).trans (((kpdStep_flPend S _).trans (h.trans (kpdStep_flPend S _).symm)).trans (tagStep_flPend S _).symm))).trans (dispStep_flPend S _).symm)
theorem finishCycle_presc_congr (S : State) {a b : State} : (finishCycle S a).presc = (finishCycle S b).presc := rfl
theorem finishCycle_busRdata_congr (S : State) {a b : State} (h : a.busRdata = b.busRdata) :
    (finishCycle S a).busRdata = (finishCycle S b).busRdata := by
  simp [finishCycle, subUnits, h]
theorem finishCycle_busErr_congr (S : State) {a b : State} (h : a.busErr = b.busErr) :
    (finishCycle S a).busErr = (finishCycle S b).busErr := by
  simp [finishCycle, subUnits, h]
theorem finishCycle_freeIdx_congr (S : State) {a b : State} (h : a.freeIdx = b.freeIdx) :
    (finishCycle S a).freeIdx = (finishCycle S b).freeIdx := by
  simp [finishCycle, subUnits, h]
theorem finishCycle_inputs_congr (S : State) {a b : State} : (finishCycle S a).inputs = (finishCycle S b).inputs := rfl
theorem finishCycle_params_congr (S : State) {a b : State} (h : a.params = b.params) :
    (finishCycle S a).params = (finishCycle S b).params := by
  simp [finishCycle, subUnits, h]
theorem finishCycle_flash_congr (S : State) {a b : State} (h : a.flash = b.flash) (hp : a.params = b.params)
    (hl : a.ledger = b.ledger) : (finishCycle S a).flash = (finishCycle S b).flash := by
  have hk : ∀ x : State, (finishCycle S x).flash = (fccStep S (tagStep S (kpdStep S x))).flash := fun x => by
    simp [finishCycle, subUnits]
  rw [hk, hk]
  unfold fccStep
  repeat' split
  all_goals simp [h, hp, hl]

/-- Two states of which the cycle leaves the same in every field give the same next state. -/
theorem finishCycle_congr (S : State) {a b : State} (h : { a with
    presc := b.presc, colPrev := b.colPrev, rowPrev := b.rowPrev, pinPrev := b.pinPrev, inputs := b.inputs } = b) :
    finishCycle S a = finishCycle S b := by
  apply State.ext
  · exact finishCycle_ctrl_congr S (congrArg State.ctrl h :)
  · exact finishCycle_sticky_congr S (congrArg State.sticky h :)
  · exact finishCycle_flags_congr S (congrArg State.flags h :)
  · exact finishCycle_irqEn_congr S (congrArg State.irqEn h :)
  · exact finishCycle_keyCode_congr S (congrArg State.keyCode h :)
  · exact finishCycle_keyRow_congr S (congrArg State.keyRow h :)
  · exact finishCycle_keyCol_congr S (congrArg State.keyCol h :)
  · exact finishCycle_tagCause_congr S (congrArg State.tagCause h :)
  · exact finishCycle_cmdCause_congr S (congrArg State.cmdCause h :)
  · exact finishCycle_busCause_congr S (congrArg State.busCause h :)
  · exact finishCycle_dbPeriod_congr S (congrArg State.dbPeriod h :)
  · exact finishCycle_pollPeriod_congr S (congrArg State.pollPeriod h :)
  · exact finishCycle_xcvTimeout_congr S (congrArg State.xcvTimeout h :)
  · exact finishCycle_dispPeriod_congr S (congrArg State.dispPeriod h :)
  · exact finishCycle_dbCount_congr S (congrArg State.dbCount h :)
  · exact finishCycle_pollCount_congr S (congrArg State.pollCount h :)
  · exact finishCycle_xcvCount_congr S (congrArg State.xcvCount h :)
  · exact finishCycle_dispCount_congr S (congrArg State.dispCount h :)
  · exact finishCycle_tagUidlen_congr S (congrArg State.tagUidlen h :)
  · exact finishCycle_tagUid0_congr S (congrArg State.tagUid0 h :)
  · exact finishCycle_tagUid1_congr S (congrArg State.tagUid1 h :)
  · exact finishCycle_tagUid2_congr S (congrArg State.tagUid2 h :)
  · exact finishCycle_tagData0_congr S (congrArg State.tagData0 h :)
  · exact finishCycle_tagData1_congr S (congrArg State.tagData1 h :)
  · exact finishCycle_tagData2_congr S (congrArg State.tagData2 h :)
  · exact finishCycle_tagData3_congr S (congrArg State.tagData3 h :)
  · exact finishCycle_ledger_congr S (congrArg State.ledger h :)
  · exact finishCycle_kpState_congr S (congrArg State.kpState h :)
  · rfl
  · rfl
  · exact finishCycle_tagState_congr S (congrArg State.tagState h :)
  · exact finishCycle_rdPend_congr S (congrArg State.rdPend h :)
  · exact finishCycle_rdIssue_congr S (congrArg State.rdIssue h :)
  · exact finishCycle_rdOp_congr S (congrArg State.rdOp h :)
  · exact finishCycle_rdAbortQ_congr S (congrArg State.rdAbortQ h :)
  · exact finishCycle_uidSh_congr S (congrArg State.uidSh h :)
  · exact finishCycle_uidlenSh_congr S (congrArg State.uidlenSh h :)
  · rfl
  · exact finishCycle_fccState_congr S (congrArg State.fccState h :)
  · exact finishCycle_flIssue_congr S (congrArg State.flIssue h :)
  · exact finishCycle_flOp_congr S (congrArg State.flOp h :)
  · exact finishCycle_flPend_congr S (congrArg State.flPend h :)
  · rfl
  · exact finishCycle_busRdata_congr S (congrArg State.busRdata h :)
  · exact finishCycle_busErr_congr S (congrArg State.busErr h :)
  · exact finishCycle_flash_congr S (congrArg State.flash h :) (congrArg State.params h :) (congrArg State.ledger h :)
  · exact finishCycle_freeIdx_congr S (congrArg State.freeIdx h :)
  · rfl
  · exact finishCycle_params_congr S (congrArg State.params h :)

end Sys2Proof.Machine
end

