-- ==== Sys2Proof/Laws/Commute.lean ====
section
/-! SUPPORT. A write of a register that no sub-step writes, or of the bus response, commutes with the sub-steps; and raising
a sticky bit does. -/

namespace Sys2Proof.Machine

theorem kpdStep_with_ctrl (v : BitVec 4) (S a : State) : kpdStep S { a with ctrl := v } = { kpdStep S a with ctrl := v } := by
  unfold kpdStep kpdScan kpdDebounce; repeat' split
  all_goals rfl
theorem tagPoll_with_ctrl (v : BitVec 4) (S a : State) : tagPoll S { a with ctrl := v } = { tagPoll S a with ctrl := v } := by
  unfold tagPoll; repeat' split
  all_goals rfl
theorem tagTransceive_with_ctrl (v : BitVec 4) (S a : State) : tagTransceive S { a with ctrl := v } = { tagTransceive S a with ctrl := v } := by
  unfold tagTransceive; repeat' split
  all_goals rfl
theorem tagFsm_with_ctrl (v : BitVec 4) (S a : State) : tagFsm S { a with ctrl := v } = { tagFsm S a with ctrl := v } := by
  unfold tagFsm; repeat' split
  all_goals rfl
theorem tagStep_with_ctrl (v : BitVec 4) (S a : State) : tagStep S { a with ctrl := v } = { tagStep S a with ctrl := v } := by
  unfold tagStep; split
  · rfl
  · rw [tagPoll_with_ctrl, tagTransceive_with_ctrl, tagFsm_with_ctrl]
theorem fccStep_with_ctrl (v : BitVec 4) (S a : State) : fccStep S { a with ctrl := v } = { fccStep S a with ctrl := v } := by
  unfold fccStep; repeat' split
  all_goals rfl
theorem dispStep_with_ctrl (v : BitVec 4) (S a : State) : dispStep S { a with ctrl := v } = { dispStep S a with ctrl := v } := by
  unfold dispStep; repeat' split
  all_goals rfl
theorem finishCycle_with_ctrl (v : BitVec 4) (S a : State) :
    finishCycle S { a with ctrl := v } = { finishCycle S a with ctrl := v } := by
  simp only [finishCycle, subUnits, kpdStep_with_ctrl, tagStep_with_ctrl, fccStep_with_ctrl, dispStep_with_ctrl]
  rfl

theorem kpdStep_with_irqEn (v : BitVec 5) (S a : State) : kpdStep S { a with irqEn := v } = { kpdStep S a with irqEn := v } := by
  unfold kpdStep kpdScan kpdDebounce; repeat' split
  all_goals rfl
theorem tagPoll_with_irqEn (v : BitVec 5) (S a : State) : tagPoll S { a with irqEn := v } = { tagPoll S a with irqEn := v } := by
  unfold tagPoll; repeat' split
  all_goals rfl
theorem tagTransceive_with_irqEn (v : BitVec 5) (S a : State) : tagTransceive S { a with irqEn := v } = { tagTransceive S a with irqEn := v } := by
  unfold tagTransceive; repeat' split
  all_goals rfl
theorem tagFsm_with_irqEn (v : BitVec 5) (S a : State) : tagFsm S { a with irqEn := v } = { tagFsm S a with irqEn := v } := by
  unfold tagFsm; repeat' split
  all_goals rfl
theorem tagStep_with_irqEn (v : BitVec 5) (S a : State) : tagStep S { a with irqEn := v } = { tagStep S a with irqEn := v } := by
  unfold tagStep; split
  · rfl
  · rw [tagPoll_with_irqEn, tagTransceive_with_irqEn, tagFsm_with_irqEn]
theorem fccStep_with_irqEn (v : BitVec 5) (S a : State) : fccStep S { a with irqEn := v } = { fccStep S a with irqEn := v } := by
  unfold fccStep; repeat' split
  all_goals rfl
theorem dispStep_with_irqEn (v : BitVec 5) (S a : State) : dispStep S { a with irqEn := v } = { dispStep S a with irqEn := v } := by
  unfold dispStep; repeat' split
  all_goals rfl
theorem finishCycle_with_irqEn (v : BitVec 5) (S a : State) :
    finishCycle S { a with irqEn := v } = { finishCycle S a with irqEn := v } := by
  simp only [finishCycle, subUnits, kpdStep_with_irqEn, tagStep_with_irqEn, fccStep_with_irqEn, dispStep_with_irqEn]
  rfl

theorem kpdStep_with_dbPeriod (v : Word) (S a : State) : kpdStep S { a with dbPeriod := v } = { kpdStep S a with dbPeriod := v } := by
  unfold kpdStep kpdScan kpdDebounce; repeat' split
  all_goals rfl
theorem tagPoll_with_dbPeriod (v : Word) (S a : State) : tagPoll S { a with dbPeriod := v } = { tagPoll S a with dbPeriod := v } := by
  unfold tagPoll; repeat' split
  all_goals rfl
theorem tagTransceive_with_dbPeriod (v : Word) (S a : State) : tagTransceive S { a with dbPeriod := v } = { tagTransceive S a with dbPeriod := v } := by
  unfold tagTransceive; repeat' split
  all_goals rfl
theorem tagFsm_with_dbPeriod (v : Word) (S a : State) : tagFsm S { a with dbPeriod := v } = { tagFsm S a with dbPeriod := v } := by
  unfold tagFsm; repeat' split
  all_goals rfl
theorem tagStep_with_dbPeriod (v : Word) (S a : State) : tagStep S { a with dbPeriod := v } = { tagStep S a with dbPeriod := v } := by
  unfold tagStep; split
  · rfl
  · rw [tagPoll_with_dbPeriod, tagTransceive_with_dbPeriod, tagFsm_with_dbPeriod]
theorem fccStep_with_dbPeriod (v : Word) (S a : State) : fccStep S { a with dbPeriod := v } = { fccStep S a with dbPeriod := v } := by
  unfold fccStep; repeat' split
  all_goals rfl
theorem dispStep_with_dbPeriod (v : Word) (S a : State) : dispStep S { a with dbPeriod := v } = { dispStep S a with dbPeriod := v } := by
  unfold dispStep; repeat' split
  all_goals rfl
theorem finishCycle_with_dbPeriod (v : Word) (S a : State) :
    finishCycle S { a with dbPeriod := v } = { finishCycle S a with dbPeriod := v } := by
  simp only [finishCycle, subUnits, kpdStep_with_dbPeriod, tagStep_with_dbPeriod, fccStep_with_dbPeriod, dispStep_with_dbPeriod]
  rfl

theorem kpdStep_with_pollPeriod (v : Word) (S a : State) : kpdStep S { a with pollPeriod := v } = { kpdStep S a with pollPeriod := v } := by
  unfold kpdStep kpdScan kpdDebounce; repeat' split
  all_goals rfl
theorem tagPoll_with_pollPeriod (v : Word) (S a : State) : tagPoll S { a with pollPeriod := v } = { tagPoll S a with pollPeriod := v } := by
  unfold tagPoll; repeat' split
  all_goals rfl
theorem tagTransceive_with_pollPeriod (v : Word) (S a : State) : tagTransceive S { a with pollPeriod := v } = { tagTransceive S a with pollPeriod := v } := by
  unfold tagTransceive; repeat' split
  all_goals rfl
theorem tagFsm_with_pollPeriod (v : Word) (S a : State) : tagFsm S { a with pollPeriod := v } = { tagFsm S a with pollPeriod := v } := by
  unfold tagFsm; repeat' split
  all_goals rfl
theorem tagStep_with_pollPeriod (v : Word) (S a : State) : tagStep S { a with pollPeriod := v } = { tagStep S a with pollPeriod := v } := by
  unfold tagStep; split
  · rfl
  · rw [tagPoll_with_pollPeriod, tagTransceive_with_pollPeriod, tagFsm_with_pollPeriod]
theorem fccStep_with_pollPeriod (v : Word) (S a : State) : fccStep S { a with pollPeriod := v } = { fccStep S a with pollPeriod := v } := by
  unfold fccStep; repeat' split
  all_goals rfl
theorem dispStep_with_pollPeriod (v : Word) (S a : State) : dispStep S { a with pollPeriod := v } = { dispStep S a with pollPeriod := v } := by
  unfold dispStep; repeat' split
  all_goals rfl
theorem finishCycle_with_pollPeriod (v : Word) (S a : State) :
    finishCycle S { a with pollPeriod := v } = { finishCycle S a with pollPeriod := v } := by
  simp only [finishCycle, subUnits, kpdStep_with_pollPeriod, tagStep_with_pollPeriod, fccStep_with_pollPeriod, dispStep_with_pollPeriod]
  rfl

theorem kpdStep_with_xcvTimeout (v : Word) (S a : State) : kpdStep S { a with xcvTimeout := v } = { kpdStep S a with xcvTimeout := v } := by
  unfold kpdStep kpdScan kpdDebounce; repeat' split
  all_goals rfl
theorem tagPoll_with_xcvTimeout (v : Word) (S a : State) : tagPoll S { a with xcvTimeout := v } = { tagPoll S a with xcvTimeout := v } := by
  unfold tagPoll; repeat' split
  all_goals rfl
theorem tagTransceive_with_xcvTimeout (v : Word) (S a : State) : tagTransceive S { a with xcvTimeout := v } = { tagTransceive S a with xcvTimeout := v } := by
  unfold tagTransceive; repeat' split
  all_goals rfl
theorem tagFsm_with_xcvTimeout (v : Word) (S a : State) : tagFsm S { a with xcvTimeout := v } = { tagFsm S a with xcvTimeout := v } := by
  unfold tagFsm; repeat' split
  all_goals rfl
theorem tagStep_with_xcvTimeout (v : Word) (S a : State) : tagStep S { a with xcvTimeout := v } = { tagStep S a with xcvTimeout := v } := by
  unfold tagStep; split
  · rfl
  · rw [tagPoll_with_xcvTimeout, tagTransceive_with_xcvTimeout, tagFsm_with_xcvTimeout]
theorem fccStep_with_xcvTimeout (v : Word) (S a : State) : fccStep S { a with xcvTimeout := v } = { fccStep S a with xcvTimeout := v } := by
  unfold fccStep; repeat' split
  all_goals rfl
theorem dispStep_with_xcvTimeout (v : Word) (S a : State) : dispStep S { a with xcvTimeout := v } = { dispStep S a with xcvTimeout := v } := by
  unfold dispStep; repeat' split
  all_goals rfl
theorem finishCycle_with_xcvTimeout (v : Word) (S a : State) :
    finishCycle S { a with xcvTimeout := v } = { finishCycle S a with xcvTimeout := v } := by
  simp only [finishCycle, subUnits, kpdStep_with_xcvTimeout, tagStep_with_xcvTimeout, fccStep_with_xcvTimeout, dispStep_with_xcvTimeout]
  rfl

theorem kpdStep_with_dispPeriod (v : Word) (S a : State) : kpdStep S { a with dispPeriod := v } = { kpdStep S a with dispPeriod := v } := by
  unfold kpdStep kpdScan kpdDebounce; repeat' split
  all_goals rfl
theorem tagPoll_with_dispPeriod (v : Word) (S a : State) : tagPoll S { a with dispPeriod := v } = { tagPoll S a with dispPeriod := v } := by
  unfold tagPoll; repeat' split
  all_goals rfl
theorem tagTransceive_with_dispPeriod (v : Word) (S a : State) : tagTransceive S { a with dispPeriod := v } = { tagTransceive S a with dispPeriod := v } := by
  unfold tagTransceive; repeat' split
  all_goals rfl
theorem tagFsm_with_dispPeriod (v : Word) (S a : State) : tagFsm S { a with dispPeriod := v } = { tagFsm S a with dispPeriod := v } := by
  unfold tagFsm; repeat' split
  all_goals rfl
theorem tagStep_with_dispPeriod (v : Word) (S a : State) : tagStep S { a with dispPeriod := v } = { tagStep S a with dispPeriod := v } := by
  unfold tagStep; split
  · rfl
  · rw [tagPoll_with_dispPeriod, tagTransceive_with_dispPeriod, tagFsm_with_dispPeriod]
theorem fccStep_with_dispPeriod (v : Word) (S a : State) : fccStep S { a with dispPeriod := v } = { fccStep S a with dispPeriod := v } := by
  unfold fccStep; repeat' split
  all_goals rfl
theorem dispStep_with_dispPeriod (v : Word) (S a : State) : dispStep S { a with dispPeriod := v } = { dispStep S a with dispPeriod := v } := by
  unfold dispStep; repeat' split
  all_goals rfl
theorem finishCycle_with_dispPeriod (v : Word) (S a : State) :
    finishCycle S { a with dispPeriod := v } = { finishCycle S a with dispPeriod := v } := by
  simp only [finishCycle, subUnits, kpdStep_with_dispPeriod, tagStep_with_dispPeriod, fccStep_with_dispPeriod, dispStep_with_dispPeriod]
  rfl

theorem kpdStep_with_cmdCause (v : BitVec 3) (S a : State) : kpdStep S { a with cmdCause := v } = { kpdStep S a with cmdCause := v } := by
  unfold kpdStep kpdScan kpdDebounce; repeat' split
  all_goals rfl
theorem tagPoll_with_cmdCause (v : BitVec 3) (S a : State) : tagPoll S { a with cmdCause := v } = { tagPoll S a with cmdCause := v } := by
  unfold tagPoll; repeat' split
  all_goals rfl
theorem tagTransceive_with_cmdCause (v : BitVec 3) (S a : State) : tagTransceive S { a with cmdCause := v } = { tagTransceive S a with cmdCause := v } := by
  unfold tagTransceive; repeat' split
  all_goals rfl
theorem tagFsm_with_cmdCause (v : BitVec 3) (S a : State) : tagFsm S { a with cmdCause := v } = { tagFsm S a with cmdCause := v } := by
  unfold tagFsm; repeat' split
  all_goals rfl
theorem tagStep_with_cmdCause (v : BitVec 3) (S a : State) : tagStep S { a with cmdCause := v } = { tagStep S a with cmdCause := v } := by
  unfold tagStep; split
  · rfl
  · rw [tagPoll_with_cmdCause, tagTransceive_with_cmdCause, tagFsm_with_cmdCause]
theorem fccStep_with_cmdCause (v : BitVec 3) (S a : State) : fccStep S { a with cmdCause := v } = { fccStep S a with cmdCause := v } := by
  unfold fccStep; repeat' split
  all_goals rfl
theorem dispStep_with_cmdCause (v : BitVec 3) (S a : State) : dispStep S { a with cmdCause := v } = { dispStep S a with cmdCause := v } := by
  unfold dispStep; repeat' split
  all_goals rfl
theorem finishCycle_with_cmdCause (v : BitVec 3) (S a : State) :
    finishCycle S { a with cmdCause := v } = { finishCycle S a with cmdCause := v } := by
  simp only [finishCycle, subUnits, kpdStep_with_cmdCause, tagStep_with_cmdCause, fccStep_with_cmdCause, dispStep_with_cmdCause]
  rfl

theorem kpdStep_with_busCause (v : BitVec 3) (S a : State) : kpdStep S { a with busCause := v } = { kpdStep S a with busCause := v } := by
  unfold kpdStep kpdScan kpdDebounce; repeat' split
  all_goals rfl
theorem tagPoll_with_busCause (v : BitVec 3) (S a : State) : tagPoll S { a with busCause := v } = { tagPoll S a with busCause := v } := by
  unfold tagPoll; repeat' split
  all_goals rfl
theorem tagTransceive_with_busCause (v : BitVec 3) (S a : State) : tagTransceive S { a with busCause := v } = { tagTransceive S a with busCause := v } := by
  unfold tagTransceive; repeat' split
  all_goals rfl
theorem tagFsm_with_busCause (v : BitVec 3) (S a : State) : tagFsm S { a with busCause := v } = { tagFsm S a with busCause := v } := by
  unfold tagFsm; repeat' split
  all_goals rfl
theorem tagStep_with_busCause (v : BitVec 3) (S a : State) : tagStep S { a with busCause := v } = { tagStep S a with busCause := v } := by
  unfold tagStep; split
  · rfl
  · rw [tagPoll_with_busCause, tagTransceive_with_busCause, tagFsm_with_busCause]
theorem fccStep_with_busCause (v : BitVec 3) (S a : State) : fccStep S { a with busCause := v } = { fccStep S a with busCause := v } := by
  unfold fccStep; repeat' split
  all_goals rfl
theorem dispStep_with_busCause (v : BitVec 3) (S a : State) : dispStep S { a with busCause := v } = { dispStep S a with busCause := v } := by
  unfold dispStep; repeat' split
  all_goals rfl
theorem finishCycle_with_busCause (v : BitVec 3) (S a : State) :
    finishCycle S { a with busCause := v } = { finishCycle S a with busCause := v } := by
  simp only [finishCycle, subUnits, kpdStep_with_busCause, tagStep_with_busCause, fccStep_with_busCause, dispStep_with_busCause]
  rfl

theorem kpdStep_with_busRdata (v : Word) (S a : State) : kpdStep S { a with busRdata := v } = { kpdStep S a with busRdata := v } := by
  unfold kpdStep kpdScan kpdDebounce; repeat' split
  all_goals rfl
theorem tagPoll_with_busRdata (v : Word) (S a : State) : tagPoll S { a with busRdata := v } = { tagPoll S a with busRdata := v } := by
  unfold tagPoll; repeat' split
  all_goals rfl
theorem tagTransceive_with_busRdata (v : Word) (S a : State) : tagTransceive S { a with busRdata := v } = { tagTransceive S a with busRdata := v } := by
  unfold tagTransceive; repeat' split
  all_goals rfl
theorem tagFsm_with_busRdata (v : Word) (S a : State) : tagFsm S { a with busRdata := v } = { tagFsm S a with busRdata := v } := by
  unfold tagFsm; repeat' split
  all_goals rfl
theorem tagStep_with_busRdata (v : Word) (S a : State) : tagStep S { a with busRdata := v } = { tagStep S a with busRdata := v } := by
  unfold tagStep; split
  · rfl
  · rw [tagPoll_with_busRdata, tagTransceive_with_busRdata, tagFsm_with_busRdata]
theorem fccStep_with_busRdata (v : Word) (S a : State) : fccStep S { a with busRdata := v } = { fccStep S a with busRdata := v } := by
  unfold fccStep; repeat' split
  all_goals rfl
theorem dispStep_with_busRdata (v : Word) (S a : State) : dispStep S { a with busRdata := v } = { dispStep S a with busRdata := v } := by
  unfold dispStep; repeat' split
  all_goals rfl
theorem finishCycle_with_busRdata (v : Word) (S a : State) :
    finishCycle S { a with busRdata := v } = { finishCycle S a with busRdata := v } := by
  simp only [finishCycle, subUnits, kpdStep_with_busRdata, tagStep_with_busRdata, fccStep_with_busRdata, dispStep_with_busRdata]
  rfl

theorem kpdStep_with_busErr (v : Bool) (S a : State) : kpdStep S { a with busErr := v } = { kpdStep S a with busErr := v } := by
  unfold kpdStep kpdScan kpdDebounce; repeat' split
  all_goals rfl
theorem tagPoll_with_busErr (v : Bool) (S a : State) : tagPoll S { a with busErr := v } = { tagPoll S a with busErr := v } := by
  unfold tagPoll; repeat' split
  all_goals rfl
theorem tagTransceive_with_busErr (v : Bool) (S a : State) : tagTransceive S { a with busErr := v } = { tagTransceive S a with busErr := v } := by
  unfold tagTransceive; repeat' split
  all_goals rfl
theorem tagFsm_with_busErr (v : Bool) (S a : State) : tagFsm S { a with busErr := v } = { tagFsm S a with busErr := v } := by
  unfold tagFsm; repeat' split
  all_goals rfl
theorem tagStep_with_busErr (v : Bool) (S a : State) : tagStep S { a with busErr := v } = { tagStep S a with busErr := v } := by
  unfold tagStep; split
  · rfl
  · rw [tagPoll_with_busErr, tagTransceive_with_busErr, tagFsm_with_busErr]
theorem fccStep_with_busErr (v : Bool) (S a : State) : fccStep S { a with busErr := v } = { fccStep S a with busErr := v } := by
  unfold fccStep; repeat' split
  all_goals rfl
theorem dispStep_with_busErr (v : Bool) (S a : State) : dispStep S { a with busErr := v } = { dispStep S a with busErr := v } := by
  unfold dispStep; repeat' split
  all_goals rfl
theorem finishCycle_with_busErr (v : Bool) (S a : State) :
    finishCycle S { a with busErr := v } = { finishCycle S a with busErr := v } := by
  simp only [finishCycle, subUnits, kpdStep_with_busErr, tagStep_with_busErr, fccStep_with_busErr, dispStep_with_busErr]
  rfl

theorem kpdStep_sticky_or (S : State) {a b : State} {m : BitVec 4} (h : a.sticky = b.sticky ||| m) :
    (kpdStep S a).sticky = (kpdStep S b).sticky ||| m := by
  unfold kpdStep kpdScan kpdDebounce; repeat' split
  all_goals simp [h, BitVec.or_assoc, BitVec.or_comm m]

theorem tagFsm_sticky_or (S : State) {a b : State} {m : BitVec 4} (h : a.sticky = b.sticky ||| m) :
    (tagFsm S a).sticky = (tagFsm S b).sticky ||| m := by
  unfold tagFsm; repeat' split
  all_goals simp [h, BitVec.or_assoc, BitVec.or_comm m]

theorem tagStep_sticky_or (S : State) {a b : State} {m : BitVec 4} (h : a.sticky = b.sticky ||| m) :
    (tagStep S a).sticky = (tagStep S b).sticky ||| m := by
  unfold tagStep; split
  · simp [h]
  · exact tagFsm_sticky_or S (by simpa using h)

theorem finishCycle_sticky_or (S : State) {a b : State} {m : BitVec 4} (h : a.sticky = b.sticky ||| m) :
    (finishCycle S a).sticky = (finishCycle S b).sticky ||| m := by
  simpa [finishCycle, subUnits] using tagStep_sticky_or S (kpdStep_sticky_or S h)

/-- The answer of an access does not touch the sub-steps. -/
theorem finishCycle_with_answer (d : Word) (e : Bool) (S a : State) :
    finishCycle S { a with busRdata := d, busErr := e } = { finishCycle S a with busRdata := d, busErr := e } :=
  (finishCycle_with_busErr e S { a with busRdata := d }).trans
    (congrArg (fun x : State => { x with busErr := e }) (finishCycle_with_busRdata d S a))

theorem finishCycle_with_sticky_or (m : BitVec 4) (S a : State) :
    finishCycle S { a with sticky := a.sticky ||| m } =
      { finishCycle S a with sticky := (finishCycle S a).sticky ||| m } := by
  apply State.ext
  case sticky => exact finishCycle_sticky_or S rfl
  case ctrl => exact finishCycle_ctrl_congr S rfl
  case flags => exact finishCycle_flags_congr S rfl
  case irqEn => exact finishCycle_irqEn_congr S rfl
  case keyCode => exact finishCycle_keyCode_congr S rfl
  case keyRow => exact finishCycle_keyRow_congr S rfl
  case keyCol => exact finishCycle_keyCol_congr S rfl
  case tagCause => exact finishCycle_tagCause_congr S rfl
  case cmdCause => exact finishCycle_cmdCause_congr S rfl
  case busCause => exact finishCycle_busCause_congr S rfl
  case dbPeriod => exact finishCycle_dbPeriod_congr S rfl
  case pollPeriod => exact finishCycle_pollPeriod_congr S rfl
  case xcvTimeout => exact finishCycle_xcvTimeout_congr S rfl
  case dispPeriod => exact finishCycle_dispPeriod_congr S rfl
  case dbCount => exact finishCycle_dbCount_congr S rfl
  case pollCount => exact finishCycle_pollCount_congr S rfl
  case xcvCount => exact finishCycle_xcvCount_congr S rfl
  case dispCount => exact finishCycle_dispCount_congr S rfl
  case tagUidlen => exact finishCycle_tagUidlen_congr S rfl
  case tagUid0 => exact finishCycle_tagUid0_congr S rfl
  case tagUid1 => exact finishCycle_tagUid1_congr S rfl
  case tagUid2 => exact finishCycle_tagUid2_congr S rfl
  case tagData0 => exact finishCycle_tagData0_congr S rfl
  case tagData1 => exact finishCycle_tagData1_congr S rfl
  case tagData2 => exact finishCycle_tagData2_congr S rfl
  case tagData3 => exact finishCycle_tagData3_congr S rfl
  case ledger => exact finishCycle_ledger_congr S rfl
  case kpState => exact finishCycle_kpState_congr S rfl
  case colPrev => rfl
  case rowPrev => rfl
  case tagState => exact finishCycle_tagState_congr S rfl
  case rdPend => exact finishCycle_rdPend_congr S rfl
  case rdIssue => exact finishCycle_rdIssue_congr S rfl
  case rdOp => exact finishCycle_rdOp_congr S rfl
  case rdAbortQ => exact finishCycle_rdAbortQ_congr S rfl
  case uidSh => exact finishCycle_uidSh_congr S rfl
  case uidlenSh => exact finishCycle_uidlenSh_congr S rfl
  case pinPrev => rfl
  case fccState => exact finishCycle_fccState_congr S rfl
  case flIssue => exact finishCycle_flIssue_congr S rfl
  case flOp => exact finishCycle_flOp_congr S rfl
  case flPend => exact finishCycle_flPend_congr S rfl
  case presc => rfl
  case busRdata => exact finishCycle_busRdata_congr S rfl
  case busErr => exact finishCycle_busErr_congr S rfl
  case flash => exact finishCycle_flash_congr S rfl rfl rfl
  case freeIdx => exact finishCycle_freeIdx_congr S rfl
  case inputs => rfl
  case params => exact finishCycle_params_congr S rfl

/-- A refused access changes nothing of the cycle but the record of the error and the answer. -/
theorem finishCycle_busError (c : BusCause) (S a : State) :
    finishCycle S (busError c a) =
      { finishCycle S a with
        sticky := (finishCycle S a).sticky ||| 8, busCause := busCauseCode c, busRdata := 0, busErr := true } := by
  have h1 := finishCycle_with_sticky_or 8 S a
  have h2 := finishCycle_with_busCause (busCauseCode c) S { a with sticky := a.sticky ||| 8 }
  have h3 := finishCycle_with_answer 0 true S { a with sticky := a.sticky ||| 8, busCause := busCauseCode c }
  rw [h1] at h2
  exact h3.trans (congrArg (fun x : State => { x with busRdata := 0, busErr := true }) h2)

end Sys2Proof.Machine
end

