-- ==== Sys2Proof/Laws/Host.lean ====
section
/-! SUPPORT. Everything the host's part of a cycle can do, said once. -/

namespace Sys2Proof.Machine

/-- What the host's part of a cycle does to the state `b` the cycle's writes are laid on. -/
inductive HostEffect (b : State) : State → Prop
  | none : HostEffect b b
  | read (d : Word) : HostEffect b (respondRead d b)
  | refused (c : BusCause) : HostEffect b (busError c b)
  | ctrl (v : Word) : HostEffect b (respondWrite { b with ctrl := v.extractLsb' 0 4 })
  | status (v : Word) : HostEffect b (respondWrite (clearSticky (v.extractLsb' 16 4) b))
  | flags (v : Word) : HostEffect b (respondWrite (clearFlags (v.extractLsb' 0 5) b))
  | irqEn (v : Word) : HostEffect b (respondWrite { b with irqEn := v.extractLsb' 0 5 })
  | dbPeriod (v : Word) : HostEffect b (respondWrite { b with dbPeriod := v })
  | pollPeriod (v : Word) : HostEffect b (respondWrite { b with pollPeriod := v })
  | xcvTimeout (v : Word) : HostEffect b (respondWrite { b with xcvTimeout := v })
  | dispPeriod (v : Word) : HostEffect b (respondWrite { b with dispPeriod := v })
  | ledger (k : Fin 15) (v : Word) (idle : b.fccState = .idle) :
      HostEffect b (respondWrite { b with ledger := b.ledger.set k v })
  | cmdError (c : CmdCause) : HostEffect b (respondWrite (raise (.cmd c) b))
  | noEffect : HostEffect b (respondWrite b)
  | close (en : tagEn b = true) (present : b.tagState = .present) :
      HostEffect b { respondWrite b with tagState := .polling }
  | commit (idle : b.fccState = .idle) : HostEffect b (startErase (respondWrite b))
  | load (idle : b.fccState = .idle) : HostEffect b (startLoad (respondWrite b))
  | swctx : HostEffect b (setFlag .swctx (respondWrite b))

/-- The decoder of the bus gives only accesses of the bus format. -/
theorem decodeBus_ok_format {d : BitVec 11} {v : Word} {i : Instr} (h : decodeBus d v = .ok i) :
    ∃ d' v', encode i = .bus d' v' := by
  unfold decodeBus decodeWrite decodeRead at h
  repeat' split at h
  all_goals cases h
  all_goals exact ⟨_, _, rfl⟩

theorem writeLedger_effect (k : Fin 15) (v : Word) (b : State) : HostEffect b (writeLedger k v b) := by
  unfold writeLedger
  split
  · exact .refused .fccBusyWrite
  · next h => exact .ledger k v (by simpa [fccBusy] using h)

theorem execWrCmd_effect (v : Word) (b : State) : ∃ h, execWrCmd v b = .next h ∧ HostEffect b h := by
  unfold execWrCmd
  split
  · exact ⟨_, rfl, .cmdError _⟩
  · exact ⟨_, rfl, .noEffect⟩
  · refine ⟨_, rfl, ?_⟩
    split
    · next h =>
      simp only [Bool.and_eq_true, beq_iff_eq] at h
      exact .close h.1 h.2
    · exact .noEffect
  · refine ⟨_, rfl, ?_⟩
    split
    · exact .cmdError .fccBusy
    · next h => exact .commit (by simpa [fccBusy] using h)
  · refine ⟨_, rfl, ?_⟩
    split
    · exact .cmdError .fccBusy
    · next h => exact .load (by simpa [fccBusy] using h)
  · exact ⟨_, rfl, .swctx⟩

theorem exec_bus_effect {i : Instr} {d : BitVec 11} {v : Word} (hi : encode i = .bus d v) (b : State) :
    ∃ h, exec i b = .next h ∧ HostEffect b h := by
  cases i
  case wrCtrl w => exact ⟨_, rfl, .ctrl w⟩
  case wrStatus w => exact ⟨_, rfl, .status w⟩
  case wrFlags w => exact ⟨_, rfl, .flags w⟩
  case wrIrqEn w => exact ⟨_, rfl, .irqEn w⟩
  case wrCmd w => exact execWrCmd_effect w b
  case wrDbPeriod w => exact ⟨_, rfl, .dbPeriod w⟩
  case wrPollPeriod w => exact ⟨_, rfl, .pollPeriod w⟩
  case wrXcvTimeout w => exact ⟨_, rfl, .xcvTimeout w⟩
  case wrDispPeriod w => exact ⟨_, rfl, .dispPeriod w⟩
  all_goals first
    | exact ⟨_, rfl, .read _⟩
    | exact ⟨_, rfl, writeLedger_effect _ _ b⟩
    | cases hi

/-- The host's part of a cycle always answers a next state, and what it does is one of `HostEffect`'s cases. -/
theorem hostPhase_effect (s : State) : ∃ h, hostPhase s = .next h ∧ HostEffect (beginCycle s) h := by
  unfold hostPhase
  split
  · exact ⟨_, rfl, .none⟩
  · exact ⟨_, rfl, .refused _⟩
  · next i hf =>
    unfold fetch at hf
    split at hf
    · simp at hf
    · split at hf
      · next j hd =>
        obtain rfl := Access.run.inj hf
        obtain ⟨d, v, he⟩ := decodeBus_ok_format hd
        exact exec_bus_effect he _
      · simp at hf

/-- A cycle without reset: the host's part, then the sub-units. -/
theorem step_cases {s t : State} (hr : (input s).rst = false) (h : step s = .next t) :
    ∃ b, hostPhase s = .next b ∧ HostEffect (beginCycle s) b ∧ t = finishCycle s b := by
  obtain ⟨b, hb, he⟩ := hostPhase_effect s
  refine ⟨b, hb, he, ?_⟩
  simp only [step, hr, hb] at h
  simpa using h.symm

end Sys2Proof.Machine
end

