-- ==== Sys2Proof/Laws/Access.lean ====
section
/-! SUPPORT. The cycle with the host's access and the same cycle without it: the sub-steps do not read the bus pins. -/

namespace Sys2Proof.Machine

theorem input_withoutAccess (s : State) : input (withoutAccess s) = { input s with busValid := false } := rfl

theorem kpdStep_withoutAccess (s a : State) : kpdStep (withoutAccess s) a = kpdStep s a := by
  unfold kpdStep kpdScan kpdDebounce colEdge captureKey
  simp only [input_withoutAccess]
  rfl

theorem tagStep_withoutAccess (s a : State) : tagStep (withoutAccess s) a = tagStep s a := by
  have h1 : rdResponse (withoutAccess s) = rdResponse s := rfl
  have h2 : rdDeadline (withoutAccess s) = rdDeadline s := rfl
  have h3 : rdOutcome (withoutAccess s) = rdOutcome s := rfl
  have h4 : pollDue (withoutAccess s) = pollDue s := rfl
  unfold tagStep tagFsm tagTransceive tagPoll
  simp only [h1, h2, h3, h4]
  rfl

theorem fccStep_withoutAccess (s a : State) : fccStep (withoutAccess s) a = fccStep s a := by
  unfold fccStep
  rfl

theorem dispStep_withoutAccess (s a : State) : dispStep (withoutAccess s) a = dispStep s a := by
  unfold dispStep
  rfl

theorem finishCycle_withoutAccess (s a : State) : finishCycle (withoutAccess s) a = finishCycle s a := by
  simp only [finishCycle, subUnits, kpdStep_withoutAccess, tagStep_withoutAccess, fccStep_withoutAccess,
    dispStep_withoutAccess]
  rfl

/-- A cycle without reset whose host part is known. -/
theorem step_of_hostPhase {s b : State} (hr : (input s).rst = false) (h : hostPhase s = .next b) :
    step s = .next (finishCycle s b) := by
  simp [step, hr, h]

/-- The cycle without the host's access: the sub-steps on the state with its pulses over. -/
theorem step_withoutAccess {s t : State} (hr : (input s).rst = false) (h : step (withoutAccess s) = .next t) :
    t = finishCycle s (beginCycle s) := by
  have hf : hostPhase (withoutAccess s) = .next (beginCycle (withoutAccess s)) := by
    simp [hostPhase, fetch, input_withoutAccess]
  simp only [step, input_withoutAccess, hr, hf] at h
  rw [(Host.Outcome.next.inj h).symm, finishCycle_withoutAccess]
  exact finishCycle_congr s rfl

end Sys2Proof.Machine
end

