-- ==== Sys2Proof/Laws/Bits.lean ====
section
/-! SUPPORT. The bytes of a published UID. -/

namespace Sys2Proof.Machine

/-- The three registers of a UID put together again. -/
theorem uid_parts (u : BitVec 80) : (u.extractLsb' 64 16 ++ u.extractLsb' 32 32 ++ u.extractLsb' 0 32 : BitVec 80) = u := by
  apply BitVec.eq_of_getLsbD_eq
  intro i hi
  simp only [BitVec.getLsbD_append, BitVec.getLsbD_extractLsb']
  split
  · simp [*]
  · split
    · have : 32 + (i - 32) = i := by omega
      simp [*]
    · have : 64 + (i - 32 - 32) = i := by omega
      have h2 : i - 32 - 32 < 16 := by omega
      simp only [this, h2, decide_true, Bool.true_and]

/-- A published UID has its bytes below the length, and 0 above. -/
theorem uidKept_byte (u : BitVec 80) (l : BitVec 4) (i : Nat) (hi : i < 10) :
    (uidKept u l).extractLsb' (8 * i) 8 = if i < l.toNat then u.extractLsb' (8 * i) 8 else 0#8 := by
  apply BitVec.eq_of_getLsbD_eq
  intro j hj
  have hm : ∀ k < 80, (BitVec.ofNat 80 (2 ^ (8 * l.toNat) - 1)).getLsbD k = decide (k < 8 * l.toNat) := by
    intro k hk
    rw [BitVec.getLsbD_ofNat, Nat.testBit_two_pow_sub_one]
    simp [hk]
  simp only [uidKept, BitVec.getLsbD_extractLsb', BitVec.getLsbD_and, hj]
  rw [hm _ (by omega)]
  split
  · simp [show 8 * i + j < 8 * l.toNat by omega, hj]
  · simp [show ¬ 8 * i + j < 8 * l.toNat by omega]

end Sys2Proof.Machine
end

