-- ==== Sys2Proof/Laws/Flags.lean ====
section
/-! SUPPORT. What each part of a cycle does to the pending flags, said once per part. -/

namespace Sys2Proof.Machine

/-- Setting one flag sets that flag and keeps the others. -/
theorem flagSet_setFlag (f g : Flag) (s : State) : flagSet (setFlag f s) g = (flagSet s g || f == g) := by
  cases f <;> cases g <;> simp [flagSet, setFlag, flagMask, flagIndex]

/-- A flag depends on FLAGS only. -/
theorem flagSet_of_flags {s t : State} (h : s.flags = t.flags) (f : Flag) : flagSet s f = flagSet t f := by
  simp [flagSet, h]

theorem flag_beq_comm (f g : Flag) : (f == g) = (g == f) := by cases f <;> cases g <;> rfl

/-- KpdStep sets KEY_READY exactly when a debounce cycle ends, and changes no other flag. -/
theorem kpdStep_flagSet (S a : State) (f : Flag) :
    flagSet (kpdStep S a) f = (flagSet a f || (keyFinalizes S && f == .keyReady)) := by
  unfold kpdStep keyFinalizes
  cases hk : kpEn S
  · simp [flagSet]
  · cases hs : S.kpState
    · simp [flagSet]
    · simp only [kpdScan, captureKey, Bool.not_true, Bool.false_eq_true, if_false]
      repeat' split
      all_goals simp [flagSet]
    · simp only [kpdDebounce]
      have hf : flagSet (kpdFinalize a) f = (flagSet a f || Flag.keyReady == f) := flagSet_setFlag _ _ _
      have hr : ∀ d : Word, flagSet { a with dbCount := d } f = flagSet a f := fun _ => rfl
      repeat' split
      all_goals simp_all [flag_beq_comm]

/-- TagStep sets TAG_READY exactly when a session is published, and changes no other flag. -/
theorem tagStep_flagSet (S a : State) (f : Flag) :
    flagSet (tagStep S a) f = (flagSet a f || (tagPublishes S && f == .tagReady)) := by
  have hp : flagSet (tagPublish S (tagTransceive S (tagPoll S a))) f = (flagSet a f || f == .tagReady) := by
    rw [tagPublish, flagSet_setFlag, flag_beq_comm]; simp [flagSet]
  unfold tagStep tagPublishes tagFsm
  cases hk : tagEn S
  · simp [flagSet]
  · cases hs : S.tagState <;> simp only [Bool.not_true, Bool.false_eq_true, if_false]
    · simp [flagSet]
    · repeat' split
      all_goals simp [flagSet]
    · repeat' split
      all_goals simp [flagSet]
    · split <;> rename_i ho <;> simp only [ho, hp]
      · simp [flagSet]
      · simp
      · simp [flagSet]
      · next h1 => 
        have : (rdOutcome S == some RdStatus.ok) = false := by
          simp_all
        simp_all [flagSet]
    · simp [flagSet]

/-- FccStep sets FCC_DONE exactly when an operation completes, and changes no other flag. -/
theorem fccStep_flagSet (S a : State) (f : Flag) :
    flagSet (fccStep S a) f = (flagSet a f || (fccCompletes S && f == .fccDone)) := by
  have hp : ∀ b : State, b.flags = a.flags → flagSet (fccFinish b) f = (flagSet a f || f == .fccDone) := by
    intro b hb
    rw [fccFinish, flagSet_setFlag, flag_beq_comm]; simp [flagSet, hb]
  unfold fccStep fccCompletes
  cases S.fccState <;> simp
  · split <;> simp [flagSet]
  · split
    · exact (hp _ rfl).trans (by simp [*])
    · simp [*]
  · split
    · exact (hp _ rfl).trans (by simp [*])
    · simp [*]

/-- DispStep sets INV_TICK exactly when the display tick expires, and changes no other flag. -/
theorem dispStep_flagSet (S a : State) (f : Flag) :
    flagSet (dispStep S a) f = (flagSet a f || (displayExpires S && f == .invTick)) := by
  have hp : ∀ b : State, b.flags = a.flags → flagSet (setFlag .invTick b) f = (flagSet a f || f == .invTick) := by
    intro b hb
    rw [flagSet_setFlag, flag_beq_comm]; simp [flagSet, hb]
  unfold dispStep displayExpires
  by_cases h1 : dispEn S <;> by_cases h2 : S.dispCount = 0 <;> by_cases h3 : tick S <;> by_cases h4 : S.dispCount = 1 <;>
    simp [*]
  all_goals simp_all [flagSet]

/-- The host's part sets SWCTX by SET_SWCTX, clears the flags written 1, and changes no other flag. -/
theorem hostPhase_flagSet {s b : State} (h : hostPhase s = .next b) (f : Flag) :
    flagSet b f = ((hostCommand s == some .setSwctx && f == .swctx) || (flagSet s f && !hostClearsFlag s f)) := by
  unfold hostPhase at h
  cases hf : fetch s with
  | none => 
    simp only [hf] at h; cases h
    simp [hostCommand, hostClearsFlag, hf, flagSet]
  | refused c =>
    simp only [hf] at h; cases h
    simp [hostCommand, hostClearsFlag, hf, flagSet]
  | run i =>
    simp only [hf] at h
    obtain ⟨j, d, v, hd⟩ : ∃ j d v, decodeBus d v = .ok j ∧ i = j := by
      unfold fetch at hf
      split at hf
      · simp at hf
      · split at hf
        · next j hd => exact ⟨j, _, _, hd, (Access.run.inj hf).symm⟩
        · simp at hf
    obtain ⟨hd, rfl⟩ := hd
    obtain ⟨d', v', he⟩ := decodeBus_ok_format hd
    have hi : flagIndex f < 5 := by cases f <;> decide
    cases i
    case wrFlags w =>
      cases h
      simp [hostCommand, hostClearsFlag, hf, flagSet, hi]
    case wrCmd w =>
      simp only [hostCommand, hostClearsFlag, hf]
      change execWrCmd w _ = _ at h
      unfold execWrCmd at h
      split at h
      · cases h; next hc => simp [hc, Except.toOption, flagSet]
      · cases h; next hc => simp [hc, Except.toOption, flagSet]
      · cases h; next hc => simp [hc, Except.toOption, flagSet]; split <;> simp
      · cases h; next hc => simp [hc, Except.toOption, flagSet]; split <;> simp
      · cases h; next hc => simp [hc, Except.toOption, flagSet]; split <;> simp
      · cases h; next hc => simp [hc, Except.toOption, flagSet_setFlag]; simp [flagSet, Bool.or_comm, flag_beq_comm]
    all_goals first
      | cases he; done
      | (cases h; simp [hostCommand, hostClearsFlag, hf, flagSet]; done)
      | (simp only [hostCommand, hostClearsFlag, hf]; change Host.Outcome.next (writeLedger _ _ _) = _ at h; cases h; unfold writeLedger; split <;> simp [flagSet])

/-- Comparing two flags, in the form `simp` decides. -/
@[simp] theorem flag_beq (f g : Flag) : (f == g) = decide (f = g) := by cases f <;> cases g <;> rfl

end Sys2Proof.Machine
end

