-- ==== Sys2Proof/Laws/Flash.lean ====
section
/-! SUPPORT. The flash array: what is read after a store, that a store leaves every other byte alone, and that every
operation keeps the canonical form and the bounds; the bytes of the page image and where they stand in a packed word. -/

namespace Sys2Proof.Machine

theorem flashWfFrom_mono {m : List Host.Cell} {lo lo' : Nat} (h : flashWfFrom lo m = true) (hle : lo' ≤ lo) :
    flashWfFrom lo' m = true := by
  cases m with
  | nil => rfl
  | cons c m =>
    obtain ⟨k, b⟩ := c
    simp only [flashWfFrom, Bool.and_eq_true, decide_eq_true_eq] at h ⊢
    exact ⟨⟨by omega, h.1.2⟩, h.2⟩

/-- Below every listed address, the array reads as unlisted. -/
theorem flashRead_below {m : List Host.Cell} {lo a : Nat} (h : flashWfFrom lo m = true) (ha : a < lo) :
    flashRead m a = unlistedByte := by
  induction m generalizing lo with
  | nil => rfl
  | cons c m ih =>
    obtain ⟨k, b⟩ := c
    simp only [flashWfFrom, Bool.and_eq_true, decide_eq_true_eq] at h
    have hk : k ≠ a := by omega
    simp only [flashRead, hk, if_false]
    exact ih h.2 (by omega)

theorem flashRead_write_other (m : List Host.Cell) {a a' : Nat} (b : Byte) (h : a' ≠ a) :
    flashRead (flashWrite m a b) a' = flashRead m a' := by
  induction m with
  | nil =>
    unfold flashWrite
    split
    · rfl
    · simp [flashRead, Ne.symm h]
  | cons c m ih =>
    obtain ⟨k, v⟩ := c
    unfold flashWrite
    split
    · split
      · rfl
      · simp [flashRead, Ne.symm h]
    · split
      · subst_vars
        split <;> simp [flashRead, Ne.symm h]
      · simp only [flashRead, ih]

theorem flashRead_write_same {m : List Host.Cell} {lo : Nat} (hm : flashWfFrom lo m = true) (a : Nat) (b : Byte) :
    flashRead (flashWrite m a b) a = b := by
  induction m generalizing lo with
  | nil =>
    unfold flashWrite
    split
    · simp_all [flashRead]
    · simp [flashRead]
  | cons c m ih =>
    obtain ⟨k, v⟩ := c
    have hwf := hm
    simp only [flashWfFrom, Bool.and_eq_true, decide_eq_true_eq] at hm
    unfold flashWrite
    split
    · next hlt =>
      split
      · next hb =>
        rw [hb]
        have hk : k ≠ a := by omega
        simp only [flashRead, hk, if_false]
        exact flashRead_below hm.2 (by omega)
      · simp [flashRead]
    · split
      · next heq =>
        split
        · next hb =>
          rw [hb]
          exact flashRead_below hm.2 (by omega)
        · simp [flashRead]
      · next hne =>
        have hk : k ≠ a := fun h => hne h.symm
        simp only [flashRead, hk, if_false]
        exact ih hm.2

theorem flashWfFrom_write {m : List Host.Cell} {lo a : Nat} (hm : flashWfFrom lo m = true) (ha : lo ≤ a) (b : Byte) :
    flashWfFrom lo (flashWrite m a b) = true := by
  induction m generalizing lo with
  | nil =>
    unfold flashWrite
    split
    · rfl
    · next hb => simp [flashWfFrom, ha, hb]
  | cons c m ih =>
    obtain ⟨k, v⟩ := c
    have hwf := hm
    simp only [flashWfFrom, Bool.and_eq_true, decide_eq_true_eq, bne_iff_ne, ne_eq] at hm
    unfold flashWrite
    split
    · split
      · exact hwf
      · next hb =>
        simp only [flashWfFrom, Bool.and_eq_true, decide_eq_true_eq, bne_iff_ne, ne_eq]
        exact ⟨⟨ha, hb⟩, ⟨by omega, hm.1.2⟩, hm.2⟩
    · split
      · split
        · exact flashWfFrom_mono hm.2 (by omega)
        · next hb =>
          simp only [flashWfFrom, Bool.and_eq_true, decide_eq_true_eq, bne_iff_ne, ne_eq]
          subst_vars
          exact ⟨⟨ha, hb⟩, hm.2⟩
      · simp only [flashWfFrom, Bool.and_eq_true, decide_eq_true_eq, bne_iff_ne, ne_eq]
        exact ⟨hm.1, ih hm.2 (by omega)⟩

/-- A store keeps the canonical form. -/
theorem flashWf_write {m : List Host.Cell} (hm : flashWf m = true) (a : Nat) (b : Byte) :
    flashWf (flashWrite m a b) = true :=
  flashWfFrom_write hm (Nat.zero_le a) b

theorem flashWrite_bound {m : List Host.Cell} {a n : Nat} {b : Byte} (hm : ∀ c ∈ m, c.1 < n) (ha : a < n) :
    ∀ c ∈ flashWrite m a b, c.1 < n := by
  induction m with
  | nil =>
    unfold flashWrite
    split <;> simp [ha]
  | cons c m ih =>
    obtain ⟨k, v⟩ := c
    simp only [List.mem_cons, forall_eq_or_imp] at hm
    unfold flashWrite
    repeat' split
    all_goals try simp only [List.mem_cons, forall_eq_or_imp]
    · exact hm
    · exact ⟨ha, hm⟩
    · exact hm.2
    · exact ⟨ha, hm.2⟩
    · exact ⟨hm.1, ih hm.2⟩

/-- Storing a byte string keeps the canonical form. -/
theorem flashWf_writeBytes {m : List Host.Cell} (hm : flashWf m = true) (bs : List Byte) (a : Nat) :
    flashWf (flashWriteBytes m a bs) = true := by
  induction bs generalizing a with
  | nil => exact hm
  | cons b bs ih => exact flashWf_write (ih (a + 1)) a b

theorem flashWriteBytes_bound {m : List Host.Cell} {n : Nat} (hm : ∀ c ∈ m, c.1 < n) (bs : List Byte) (a : Nat)
    (ha : a + bs.length ≤ n) : ∀ c ∈ flashWriteBytes m a bs, c.1 < n := by
  induction bs generalizing a with
  | nil => exact hm
  | cons b bs ih =>
    simp only [List.length_cons] at ha
    exact flashWrite_bound (ih (a + 1) (by omega)) (by omega)

/-- Storing a byte string leaves every byte outside it alone. -/
theorem flashRead_writeBytes_outside (m : List Host.Cell) (bs : List Byte) (a a' : Nat)
    (h : a' < a ∨ a + bs.length ≤ a') : flashRead (flashWriteBytes m a bs) a' = flashRead m a' := by
  induction bs generalizing a with
  | nil => rfl
  | cons b bs ih =>
    simp only [List.length_cons] at h
    unfold flashWriteBytes
    rw [flashRead_write_other _ _ (by omega), ih (a + 1) (by omega)]

/-- After a byte string is stored, its bytes are read. -/
theorem flashRead_writeBytes_inside {m : List Host.Cell} (hm : flashWf m = true) (bs : List Byte) (a i : Nat)
    (h : i < bs.length) : flashRead (flashWriteBytes m a bs) (a + i) = bs[i] := by
  induction bs generalizing a i with
  | nil => simp at h
  | cons b bs ih =>
    unfold flashWriteBytes
    cases i with
    | zero =>
      simp only [Nat.add_zero, List.getElem_cons_zero]
      exact flashRead_write_same (lo := 0) (flashWf_writeBytes hm bs (a + 1)) a b
    | succ i =>
      have hi : i < bs.length := by simpa using h
      rw [flashRead_write_other _ _ (by omega), show a + (i + 1) = a + 1 + i by omega, ih (a + 1) i hi]
      simp

/-- An erased range reads as erased, every other byte as before. -/
theorem flashRead_erase (m : List Host.Cell) (a len a' : Nat) :
    flashRead (flashErase m a len) a' = if a ≤ a' ∧ a' < a + len then unlistedByte else flashRead m a' := by
  induction m with
  | nil => simp [flashErase, flashRead]
  | cons c m ih =>
    obtain ⟨k, b⟩ := c
    unfold flashErase at ih ⊢
    simp only [List.filter_cons]
    split <;> rename_i hk <;> simp only [Bool.or_eq_true, decide_eq_true_eq] at hk
    · simp only [flashRead, ih]
      by_cases hka : k = a'
      · have : ¬(a ≤ a' ∧ a' < a + len) := by omega
        simp [hka, this]
      · simp [hka]
    · rw [ih]
      split
      · rfl
      · have hka : k ≠ a' := by omega
        simp [flashRead, hka]

theorem flashWfFrom_filter {m : List Host.Cell} {lo : Nat} (hm : flashWfFrom lo m = true) (p : Host.Cell → Bool) :
    flashWfFrom lo (m.filter p) = true := by
  induction m generalizing lo with
  | nil => rfl
  | cons c m ih =>
    obtain ⟨k, b⟩ := c
    simp only [flashWfFrom, Bool.and_eq_true, decide_eq_true_eq] at hm
    simp only [List.filter_cons]
    split
    · simp only [flashWfFrom, Bool.and_eq_true, decide_eq_true_eq]
      exact ⟨hm.1, ih hm.2⟩
    · exact flashWfFrom_mono (ih hm.2) (by omega)

/-- An erase keeps the canonical form. -/
theorem flashWf_erase {m : List Host.Cell} (hm : flashWf m = true) (a len : Nat) : flashWf (flashErase m a len) = true :=
  flashWfFrom_filter hm _

theorem flashErase_bound {m : List Host.Cell} {n : Nat} (hm : ∀ c ∈ m, c.1 < n) (a len : Nat) :
    ∀ c ∈ flashErase m a len, c.1 < n :=
  fun c hc => hm c (List.mem_of_mem_filter hc)

/-- The array of ResetState is in the canonical form. -/
theorem flashWf_reset : flashWf State.reset.flash = true := rfl

theorem freeBytes_length (n k : Nat) : (freeBytes n k).length = k := by
  induction k generalizing n with
  | zero => rfl
  | succ k ih => simp [freeBytes, ih]

theorem sectorFreed_flash (a : State) : (sectorFreed a).flash =
    flashWriteBytes a.flash (sectorBase a.params) (freeBytes a.freeIdx sectorBytes) := by
  simp only [sectorFreed]

/-- Byte b of word k in the byte string of a list of words (R78). -/
theorem wordBytes_flatMap (ws : List Word) (k : Nat) {b : Nat} (hb : b < 4) :
    (ws.flatMap wordBytes)[4 * k + b]? = ws[k]?.map fun w => wordByte w b := by
  induction ws generalizing k with
  | nil => simp
  | cons w ws ih =>
    cases k with
    | zero =>
      have : b = 0 ∨ b = 1 ∨ b = 2 ∨ b = 3 := by omega
      rcases this with rfl | rfl | rfl | rfl <;> simp [wordBytes]
    | succ n =>
      rw [List.flatMap_cons, List.getElem?_append_right (by simp [wordBytes]; omega)]
      simpa [wordBytes, show 4 * (n + 1) + b - 4 = 4 * n + b by omega] using ih n

theorem ledgerBytes_length (l : Vector Word 15) : (l.toList.flatMap wordBytes).length = 60 := by
  simp [wordBytes, List.length_flatMap]

theorem pageImage_length (l : Vector Word 15) : (pageImage l).length = 256 := by
  rw [pageImage, List.length_append, ledgerBytes_length, List.length_replicate]
  rfl

/-- Bytes 0..59 of the page image: byte 4k+b is byte b of LEDGER word k (R112). -/
theorem pageImage_word (l : Vector Word 15) (k : Fin 15) {b : Nat} (hb : b < 4) :
    (pageImage l)[4 * k.val + b]? = some ((l[k]).extractLsb' (8 * b) 8) := by
  rw [pageImage, List.getElem?_append_left (by rw [ledgerBytes_length]; omega), wordBytes_flatMap _ _ hb]
  simp [wordByte]

/-- Bytes 60..255 of the page image (R112). -/
theorem pageImage_pad (l : Vector Word 15) {i : Nat} (hi : 60 ≤ i) (hi' : i < 256) : (pageImage l)[i]? = some 0xFF := by
  rw [pageImage, List.getElem?_append_right (by rw [ledgerBytes_length]; omega), ledgerBytes_length,
    List.getElem?_replicate, if_pos (by simp only [pageBytes, imageBytes]; omega)]
  rfl

theorem packBytes_div (l : List Byte) {i : Nat} (h : i < l.length) : packBytes l / 2 ^ (8 * i) % 256 = (l[i]).toNat := by
  induction l generalizing i with
  | nil => simp at h
  | cons b bs ih =>
    cases i with
    | zero => simp [packBytes]; omega
    | succ n =>
      have hp : (2 : Nat) ^ (8 * (n + 1)) = 256 * 2 ^ (8 * n) := by rw [Nat.mul_add, Nat.pow_add]; omega
      have hd : packBytes (b :: bs) / 256 = packBytes bs := by simp [packBytes]; omega
      rw [hp, ← Nat.div_div_eq_div_mul, hd, ih (by simpa using h)]
      rfl

/-- Byte i of a packed byte string stands in bits [8i+7:8i] (R109, log entry 6). -/
theorem packBytes_extract {w : Nat} {l : List Byte} {i : Nat} {b : Byte} (h : l[i]? = some b) (hw : 8 * l.length ≤ w) :
    (BitVec.ofNat w (packBytes l)).extractLsb' (8 * i) 8 = b := by
  obtain ⟨hi, rfl⟩ := List.getElem?_eq_some_iff.mp h
  obtain ⟨k, rfl⟩ : ∃ k, w = 8 * i + (8 + k) := ⟨w - 8 * i - 8, by omega⟩
  apply BitVec.eq_of_toNat_eq
  rw [BitVec.extractLsb'_toNat, BitVec.toNat_ofNat, ← packBytes_div l hi, Nat.shiftRight_eq_div_pow, Nat.pow_add,
    Nat.mod_mul_right_div_self, Nat.pow_add, Nat.mod_mul_right_mod]

theorem sectorBase_eq (p : Params) : sectorBase p = 4096 * p.topSector.val := by
  simp [sectorBase, Params.flashSize, sectorBytes]
  omega

/-- The sector base fits the 32 bits of a flash address (R45, R71, R79). -/
theorem sectorBase_ofNat (p : Params) : (BitVec.ofNat 32 (sectorBase p)).toNat = p.flashSize - 4096 := by
  have := p.topSector.isLt
  rw [BitVec.toNat_ofNat, sectorBase_eq, Params.flashSize]
  omega

end Sys2Proof.Machine
end

