-- ==== Sys2Proof/Laws/HostFrame.lean ====
section
/-! SUPPORT. The fields that no host access writes. -/

namespace Sys2Proof.Machine

theorem HostEffect_keyCode {b h : State} (e : HostEffect b h) : h.keyCode = b.keyCode := by
  cases e <;> rfl
theorem HostEffect_keyRow {b h : State} (e : HostEffect b h) : h.keyRow = b.keyRow := by
  cases e <;> rfl
theorem HostEffect_keyCol {b h : State} (e : HostEffect b h) : h.keyCol = b.keyCol := by
  cases e <;> rfl
theorem HostEffect_tagCause {b h : State} (e : HostEffect b h) : h.tagCause = b.tagCause := by
  cases e <;> rfl
theorem HostEffect_dbCount {b h : State} (e : HostEffect b h) : h.dbCount = b.dbCount := by
  cases e <;> rfl
theorem HostEffect_pollCount {b h : State} (e : HostEffect b h) : h.pollCount = b.pollCount := by
  cases e <;> rfl
theorem HostEffect_xcvCount {b h : State} (e : HostEffect b h) : h.xcvCount = b.xcvCount := by
  cases e <;> rfl
theorem HostEffect_dispCount {b h : State} (e : HostEffect b h) : h.dispCount = b.dispCount := by
  cases e <;> rfl
theorem HostEffect_tagUidlen {b h : State} (e : HostEffect b h) : h.tagUidlen = b.tagUidlen := by
  cases e <;> rfl
theorem HostEffect_tagUid0 {b h : State} (e : HostEffect b h) : h.tagUid0 = b.tagUid0 := by
  cases e <;> rfl
theorem HostEffect_tagUid1 {b h : State} (e : HostEffect b h) : h.tagUid1 = b.tagUid1 := by
  cases e <;> rfl
theorem HostEffect_tagUid2 {b h : State} (e : HostEffect b h) : h.tagUid2 = b.tagUid2 := by
  cases e <;> rfl
theorem HostEffect_tagData0 {b h : State} (e : HostEffect b h) : h.tagData0 = b.tagData0 := by
  cases e <;> rfl
theorem HostEffect_tagData1 {b h : State} (e : HostEffect b h) : h.tagData1 = b.tagData1 := by
  cases e <;> rfl
theorem HostEffect_tagData2 {b h : State} (e : HostEffect b h) : h.tagData2 = b.tagData2 := by
  cases e <;> rfl
theorem HostEffect_tagData3 {b h : State} (e : HostEffect b h) : h.tagData3 = b.tagData3 := by
  cases e <;> rfl
theorem HostEffect_kpState {b h : State} (e : HostEffect b h) : h.kpState = b.kpState := by
  cases e <;> rfl
theorem HostEffect_colPrev {b h : State} (e : HostEffect b h) : h.colPrev = b.colPrev := by
  cases e <;> rfl
theorem HostEffect_rowPrev {b h : State} (e : HostEffect b h) : h.rowPrev = b.rowPrev := by
  cases e <;> rfl
theorem HostEffect_rdPend {b h : State} (e : HostEffect b h) : h.rdPend = b.rdPend := by
  cases e <;> rfl
theorem HostEffect_rdIssue {b h : State} (e : HostEffect b h) : h.rdIssue = b.rdIssue := by
  cases e <;> rfl
theorem HostEffect_rdOp {b h : State} (e : HostEffect b h) : h.rdOp = b.rdOp := by
  cases e <;> rfl
theorem HostEffect_rdAbortQ {b h : State} (e : HostEffect b h) : h.rdAbortQ = b.rdAbortQ := by
  cases e <;> rfl
theorem HostEffect_uidSh {b h : State} (e : HostEffect b h) : h.uidSh = b.uidSh := by
  cases e <;> rfl
theorem HostEffect_uidlenSh {b h : State} (e : HostEffect b h) : h.uidlenSh = b.uidlenSh := by
  cases e <;> rfl
theorem HostEffect_pinPrev {b h : State} (e : HostEffect b h) : h.pinPrev = b.pinPrev := by
  cases e <;> rfl
theorem HostEffect_presc {b h : State} (e : HostEffect b h) : h.presc = b.presc := by
  cases e <;> rfl
theorem HostEffect_flash {b h : State} (e : HostEffect b h) : h.flash = b.flash := by
  cases e <;> rfl
theorem HostEffect_freeIdx {b h : State} (e : HostEffect b h) : h.freeIdx = b.freeIdx := by
  cases e <;> rfl
theorem HostEffect_inputs {b h : State} (e : HostEffect b h) : h.inputs = b.inputs := by
  cases e <;> rfl
theorem HostEffect_params {b h : State} (e : HostEffect b h) : h.params = b.params := by
  cases e <;> rfl

end Sys2Proof.Machine
end

