-- ==== Sys2Proof/Laws/PerInstr.lean ====
section
/-! SUPPORT. The encoding of each instruction, one lemma per constructor: the words of an instruction decode to it. -/

namespace Sys2Proof.Laws.Encodable

/-- The words of the instruction decode to it. -/
def Statement (i : Instr) : Prop := decode (encode i) = .ok i

theorem nop : Statement .nop := rfl
theorem sessionClose : Statement .sessionClose := rfl
theorem commit : Statement .commit := rfl
theorem load : Statement .load := rfl
theorem setSwctx : Statement .setSwctx := rfl
theorem rdId : Statement .rdId := rfl
theorem rdCtrl : Statement .rdCtrl := rfl
theorem rdStatus : Statement .rdStatus := rfl
theorem rdFlags : Statement .rdFlags := rfl
theorem rdIrqEn : Statement .rdIrqEn := rfl
theorem rdCmd : Statement .rdCmd := rfl
theorem rdKey : Statement .rdKey := rfl
theorem rdErr : Statement .rdErr := rfl
theorem rdDbPeriod : Statement .rdDbPeriod := rfl
theorem rdPollPeriod : Statement .rdPollPeriod := rfl
theorem rdXcvTimeout : Statement .rdXcvTimeout := rfl
theorem rdDispPeriod : Statement .rdDispPeriod := rfl
theorem rdDbCount : Statement .rdDbCount := rfl
theorem rdPollCount : Statement .rdPollCount := rfl
theorem rdXcvCount : Statement .rdXcvCount := rfl
theorem rdDispCount : Statement .rdDispCount := rfl
theorem rdTagUidlen : Statement .rdTagUidlen := rfl
theorem rdTagUid0 : Statement .rdTagUid0 := rfl
theorem rdTagUid1 : Statement .rdTagUid1 := rfl
theorem rdTagUid2 : Statement .rdTagUid2 := rfl
theorem rdTagData0 : Statement .rdTagData0 := rfl
theorem rdTagData1 : Statement .rdTagData1 := rfl
theorem rdTagData2 : Statement .rdTagData2 := rfl
theorem rdTagData3 : Statement .rdTagData3 := rfl
theorem rdLedger0 : Statement .rdLedger0 := rfl
theorem rdLedger1 : Statement .rdLedger1 := rfl
theorem rdLedger2 : Statement .rdLedger2 := rfl
theorem rdLedger3 : Statement .rdLedger3 := rfl
theorem rdLedger4 : Statement .rdLedger4 := rfl
theorem rdLedger5 : Statement .rdLedger5 := rfl
theorem rdLedger6 : Statement .rdLedger6 := rfl
theorem rdLedger7 : Statement .rdLedger7 := rfl
theorem rdLedger8 : Statement .rdLedger8 := rfl
theorem rdLedger9 : Statement .rdLedger9 := rfl
theorem rdLedger10 : Statement .rdLedger10 := rfl
theorem rdLedger11 : Statement .rdLedger11 := rfl
theorem rdLedger12 : Statement .rdLedger12 := rfl
theorem rdLedger13 : Statement .rdLedger13 := rfl
theorem rdLedger14 : Statement .rdLedger14 := rfl
theorem wrCtrl (wdata : Word) : Statement (.wrCtrl wdata) := rfl
theorem wrStatus (wdata : Word) : Statement (.wrStatus wdata) := rfl
theorem wrFlags (wdata : Word) : Statement (.wrFlags wdata) := rfl
theorem wrIrqEn (wdata : Word) : Statement (.wrIrqEn wdata) := rfl
theorem wrCmd (wdata : Word) : Statement (.wrCmd wdata) := rfl
theorem wrDbPeriod (wdata : Word) : Statement (.wrDbPeriod wdata) := rfl
theorem wrPollPeriod (wdata : Word) : Statement (.wrPollPeriod wdata) := rfl
theorem wrXcvTimeout (wdata : Word) : Statement (.wrXcvTimeout wdata) := rfl
theorem wrDispPeriod (wdata : Word) : Statement (.wrDispPeriod wdata) := rfl
theorem wrLedger0 (wdata : Word) : Statement (.wrLedger0 wdata) := rfl
theorem wrLedger1 (wdata : Word) : Statement (.wrLedger1 wdata) := rfl
theorem wrLedger2 (wdata : Word) : Statement (.wrLedger2 wdata) := rfl
theorem wrLedger3 (wdata : Word) : Statement (.wrLedger3 wdata) := rfl
theorem wrLedger4 (wdata : Word) : Statement (.wrLedger4 wdata) := rfl
theorem wrLedger5 (wdata : Word) : Statement (.wrLedger5 wdata) := rfl
theorem wrLedger6 (wdata : Word) : Statement (.wrLedger6 wdata) := rfl
theorem wrLedger7 (wdata : Word) : Statement (.wrLedger7 wdata) := rfl
theorem wrLedger8 (wdata : Word) : Statement (.wrLedger8 wdata) := rfl
theorem wrLedger9 (wdata : Word) : Statement (.wrLedger9 wdata) := rfl
theorem wrLedger10 (wdata : Word) : Statement (.wrLedger10 wdata) := rfl
theorem wrLedger11 (wdata : Word) : Statement (.wrLedger11 wdata) := rfl
theorem wrLedger12 (wdata : Word) : Statement (.wrLedger12 wdata) := rfl
theorem wrLedger13 (wdata : Word) : Statement (.wrLedger13 wdata) := rfl
theorem wrLedger14 (wdata : Word) : Statement (.wrLedger14 wdata) := rfl
theorem rPoll : Statement .rPoll := rfl
theorem rAuth : Statement .rAuth := rfl
theorem rRead : Statement .rRead := rfl
theorem flErase : Statement .flErase := rfl
theorem flProgram : Statement .flProgram := rfl
theorem flRead : Statement .flRead := rfl

end Sys2Proof.Laws.Encodable
end

