-- ==== Sys2Proof/Tests/Slice0.lean ====
section
/-! SUPPORT. The model's own tests: the smoke of WellFormed, the decoding of words written out from 30_encoding.md, one-step
tests with the expected results of 95_test_vectors.md, and for each obligation with hypotheses a state that meets them. -/

namespace Sys2Proof.Tests

open Sys2Proof.Machine

/-! ## Well-formedness: an ill-formed term for each check -/

theorem test_wf_refuses_reserved_bits : (Instr.wrCmd 0x100).wellFormed = false := by decide
theorem test_wf_refuses_reserved_op : (Instr.wrCmd 0x05).wellFormed = false := by decide
theorem test_wf_accepts_the_last_op : (Instr.wrCmd 0x04).wellFormed = true := by decide

/-! ## Decoding: each descriptor written out as `we, size, addr` (R100), each word as its row of the table gives it -/

theorem test_decode_nop : decode (.cmd 0x00000000) = .ok .nop := by decide
theorem test_decode_sessionClose : decode (.cmd 0x00000001) = .ok .sessionClose := by decide
theorem test_decode_commit : decode (.cmd 0x00000002) = .ok .commit := by decide
theorem test_decode_load : decode (.cmd 0x00000003) = .ok .load := by decide
theorem test_decode_setSwctx : decode (.cmd 0x00000004) = .ok .setSwctx := by decide
theorem test_decode_rdId : decode (.bus 0b01000000000 0) = .ok .rdId := by decide
theorem test_decode_rdCtrl : decode (.bus 0b01000000100 0) = .ok .rdCtrl := by decide
theorem test_decode_rdStatus : decode (.bus 0b01000001000 0) = .ok .rdStatus := by decide
theorem test_decode_rdFlags : decode (.bus 0b01000001100 0) = .ok .rdFlags := by decide
theorem test_decode_rdIrqEn : decode (.bus 0b01000010000 0) = .ok .rdIrqEn := by decide
theorem test_decode_rdCmd : decode (.bus 0b01000010100 0) = .ok .rdCmd := by decide
theorem test_decode_rdKey : decode (.bus 0b01000011000 0) = .ok .rdKey := by decide
theorem test_decode_rdErr : decode (.bus 0b01000011100 0) = .ok .rdErr := by decide
theorem test_decode_rdDbPeriod : decode (.bus 0b01000100000 0) = .ok .rdDbPeriod := by decide
theorem test_decode_rdPollPeriod : decode (.bus 0b01000100100 0) = .ok .rdPollPeriod := by decide
theorem test_decode_rdXcvTimeout : decode (.bus 0b01000101000 0) = .ok .rdXcvTimeout := by decide
theorem test_decode_rdDispPeriod : decode (.bus 0b01000101100 0) = .ok .rdDispPeriod := by decide
theorem test_decode_rdDbCount : decode (.bus 0b01000110000 0) = .ok .rdDbCount := by decide
theorem test_decode_rdPollCount : decode (.bus 0b01000110100 0) = .ok .rdPollCount := by decide
theorem test_decode_rdXcvCount : decode (.bus 0b01000111000 0) = .ok .rdXcvCount := by decide
theorem test_decode_rdDispCount : decode (.bus 0b01000111100 0) = .ok .rdDispCount := by decide
theorem test_decode_rdTagUidlen : decode (.bus 0b01001000000 0) = .ok .rdTagUidlen := by decide
theorem test_decode_rdTagUid0 : decode (.bus 0b01001000100 0) = .ok .rdTagUid0 := by decide
theorem test_decode_rdTagUid1 : decode (.bus 0b01001001000 0) = .ok .rdTagUid1 := by decide
theorem test_decode_rdTagUid2 : decode (.bus 0b01001001100 0) = .ok .rdTagUid2 := by decide
theorem test_decode_rdTagData0 : decode (.bus 0b01001010000 0) = .ok .rdTagData0 := by decide
theorem test_decode_rdTagData1 : decode (.bus 0b01001010100 0) = .ok .rdTagData1 := by decide
theorem test_decode_rdTagData2 : decode (.bus 0b01001011000 0) = .ok .rdTagData2 := by decide
theorem test_decode_rdTagData3 : decode (.bus 0b01001011100 0) = .ok .rdTagData3 := by decide
theorem test_decode_rdLedger0 : decode (.bus 0b01001100000 0) = .ok .rdLedger0 := by decide
theorem test_decode_rdLedger1 : decode (.bus 0b01001100100 0) = .ok .rdLedger1 := by decide
theorem test_decode_rdLedger2 : decode (.bus 0b01001101000 0) = .ok .rdLedger2 := by decide
theorem test_decode_rdLedger3 : decode (.bus 0b01001101100 0) = .ok .rdLedger3 := by decide
theorem test_decode_rdLedger4 : decode (.bus 0b01001110000 0) = .ok .rdLedger4 := by decide
theorem test_decode_rdLedger5 : decode (.bus 0b01001110100 0) = .ok .rdLedger5 := by decide
theorem test_decode_rdLedger6 : decode (.bus 0b01001111000 0) = .ok .rdLedger6 := by decide
theorem test_decode_rdLedger7 : decode (.bus 0b01001111100 0) = .ok .rdLedger7 := by decide
theorem test_decode_rdLedger8 : decode (.bus 0b01010000000 0) = .ok .rdLedger8 := by decide
theorem test_decode_rdLedger9 : decode (.bus 0b01010000100 0) = .ok .rdLedger9 := by decide
theorem test_decode_rdLedger10 : decode (.bus 0b01010001000 0) = .ok .rdLedger10 := by decide
theorem test_decode_rdLedger11 : decode (.bus 0b01010001100 0) = .ok .rdLedger11 := by decide
theorem test_decode_rdLedger12 : decode (.bus 0b01010010000 0) = .ok .rdLedger12 := by decide
theorem test_decode_rdLedger13 : decode (.bus 0b01010010100 0) = .ok .rdLedger13 := by decide
theorem test_decode_rdLedger14 : decode (.bus 0b01010011000 0) = .ok .rdLedger14 := by decide
theorem test_decode_wrCtrl : decode (.bus 0b11000000100 0xA5) = .ok (.wrCtrl 0xA5) := by decide
theorem test_decode_wrStatus : decode (.bus 0b11000001000 0xA5) = .ok (.wrStatus 0xA5) := by decide
theorem test_decode_wrFlags : decode (.bus 0b11000001100 0xA5) = .ok (.wrFlags 0xA5) := by decide
theorem test_decode_wrIrqEn : decode (.bus 0b11000010000 0xA5) = .ok (.wrIrqEn 0xA5) := by decide
theorem test_decode_wrCmd : decode (.bus 0b11000010100 0xA5) = .ok (.wrCmd 0xA5) := by decide
theorem test_decode_wrDbPeriod : decode (.bus 0b11000100000 0xA5) = .ok (.wrDbPeriod 0xA5) := by decide
theorem test_decode_wrPollPeriod : decode (.bus 0b11000100100 0xA5) = .ok (.wrPollPeriod 0xA5) := by decide
theorem test_decode_wrXcvTimeout : decode (.bus 0b11000101000 0xA5) = .ok (.wrXcvTimeout 0xA5) := by decide
theorem test_decode_wrDispPeriod : decode (.bus 0b11000101100 0xA5) = .ok (.wrDispPeriod 0xA5) := by decide
theorem test_decode_wrLedger0 : decode (.bus 0b11001100000 0xA5) = .ok (.wrLedger0 0xA5) := by decide
theorem test_decode_wrLedger1 : decode (.bus 0b11001100100 0xA5) = .ok (.wrLedger1 0xA5) := by decide
theorem test_decode_wrLedger2 : decode (.bus 0b11001101000 0xA5) = .ok (.wrLedger2 0xA5) := by decide
theorem test_decode_wrLedger3 : decode (.bus 0b11001101100 0xA5) = .ok (.wrLedger3 0xA5) := by decide
theorem test_decode_wrLedger4 : decode (.bus 0b11001110000 0xA5) = .ok (.wrLedger4 0xA5) := by decide
theorem test_decode_wrLedger5 : decode (.bus 0b11001110100 0xA5) = .ok (.wrLedger5 0xA5) := by decide
theorem test_decode_wrLedger6 : decode (.bus 0b11001111000 0xA5) = .ok (.wrLedger6 0xA5) := by decide
theorem test_decode_wrLedger7 : decode (.bus 0b11001111100 0xA5) = .ok (.wrLedger7 0xA5) := by decide
theorem test_decode_wrLedger8 : decode (.bus 0b11010000000 0xA5) = .ok (.wrLedger8 0xA5) := by decide
theorem test_decode_wrLedger9 : decode (.bus 0b11010000100 0xA5) = .ok (.wrLedger9 0xA5) := by decide
theorem test_decode_wrLedger10 : decode (.bus 0b11010001000 0xA5) = .ok (.wrLedger10 0xA5) := by decide
theorem test_decode_wrLedger11 : decode (.bus 0b11010001100 0xA5) = .ok (.wrLedger11 0xA5) := by decide
theorem test_decode_wrLedger12 : decode (.bus 0b11010010000 0xA5) = .ok (.wrLedger12 0xA5) := by decide
theorem test_decode_wrLedger13 : decode (.bus 0b11010010100 0xA5) = .ok (.wrLedger13 0xA5) := by decide
theorem test_decode_wrLedger14 : decode (.bus 0b11010011000 0xA5) = .ok (.wrLedger14 0xA5) := by decide
theorem test_decode_rPoll : decode (.rdr 0b00) = .ok .rPoll := by decide
theorem test_decode_rAuth : decode (.rdr 0b01) = .ok .rAuth := by decide
theorem test_decode_rRead : decode (.rdr 0b10) = .ok .rRead := by decide
theorem test_decode_flErase : decode (.flp 0b00) = .ok .flErase := by decide
theorem test_decode_flProgram : decode (.flp 0b01) = .ok .flProgram := by decide
theorem test_decode_flRead : decode (.flp 0b10) = .ok .flRead := by decide

theorem test_decode_refuses_size : decode (.bus 0b10000000100 1) = .error (.bus .size) := by decide
theorem test_decode_refuses_misaligned : decode (.bus 0b01000000110 0) = .error (.bus .misaligned) := by decide
theorem test_decode_refuses_unmapped : decode (.bus 0b01010011100 0) = .error (.bus .unmapped) := by decide
theorem test_decode_refuses_write_ro : decode (.bus 0b11000000000 0) = .error (.bus .writeRo) := by decide
theorem test_decode_refuses_reserved_op : decode (.cmd 0x00000005) = .error (.cmd .reservedOp) := by decide
theorem test_decode_refuses_reserved_bits : decode (.cmd 0x00000102) = .error (.cmd .reservedBits) := by decide
theorem test_decode_refuses_reader_op3 : decode (.rdr 0b11) = .error .readerOp3 := by decide
theorem test_decode_refuses_flash_op3 : decode (.flp 0b11) = .error .flashOp3 := by decide
theorem test_decode_table_word : decodeTableWord 16 0x204 = some .rdCtrl ∧ decodeTableWord 32 2 = some .commit
    ∧ decodeTableWord 8 1 = some .rAuth ∧ decodeTableWord 16 0x206 = none := by decide

/-! ## Helpers: a block with TICK_CYCLES = 1, as the vectors assume, and the pins of one cycle -/

/-- ResetState of a block with TICK_CYCLES = 1 and one sector of flash. -/
def base : State :=
  { State.reset with
    params := { tickPred := 0, topSector := 0, tagBlock := 4, authKey := defaultAuthKey, keymap := defaultKeymap } }

/-- The pins of the present cycle; in the cycles after it every pin is 0. -/
def pins (i : Inputs) (s : State) : State := { s with inputs := [i] }

/-- A host write of a word. -/
def wr (a : BitVec 8) (v : Word) : Inputs :=
  { Inputs.quiet with busValid := true, busWe := true, busSize := 2, busAddr := a, busWdata := v }

/-- A host read of a word. -/
def rd (a : BitVec 8) : Inputs := { Inputs.quiet with busValid := true, busSize := 2, busAddr := a }

/-- The state after one cycle. -/
def after (s : State) : State :=
  match step s with
  | .next t => t
  | _ => s

theorem next_of_run {m : Nat} {s u v : State} (h : Host.Core.run Sys2Proof.core m s = .next u)
    (hv : Host.Core.run Sys2Proof.core m s = .next v) : v = u :=
  Host.Outcome.next.inj (hv.symm.trans h)

/-- KPD enabled and scanning. -/
def scanning : State := { base with ctrl := 1, kpState := .colsArmed, dbPeriod := 3 }

/-- A debounce cycle of key '6', with the row released in the cycle before. -/
def bouncing : State :=
  { base with ctrl := 1, kpState := .rowsArmed, dbPeriod := 3, dbCount := 1, keyCode := 6, keyRow := 2, keyCol := 4 }

/-- TAG enabled, periodic, a poll due at the next tick. -/
def polling : State := { base with ctrl := 2, tagState := .polling, pollPeriod := 5, pollCount := 1, xcvTimeout := 4 }

/-- A reader request outstanding, past its request cycle. -/
def waiting (st : TagState) (op : RdOp) : State :=
  { polling with tagState := st, rdOp := op, rdPend := true, xcvCount := 2, uidSh := 0xDEADBEEF, uidlenSh := 4 }

/-- A reader response. -/
def rsp (status : BitVec 2) (len : BitVec 4) : Inputs :=
  { Inputs.quiet with
    rspValid := true, rspStatus := status, rspUidlen := len, rspUid := 0xDEADBEEF
    rspData := 0x0F0E0D0C0B0A09080706050403020100 }

/-- A flash request outstanding, past its request cycle. -/
def busy (st : FccState) (op : FlOp) : State := { base with fccState := st, flOp := op, flPend := true }

/-- A flash acknowledgement, the page's first word 0x32. -/
def ack : Inputs := { Inputs.quiet with flAck := true, flRdata := 0x32 }

/-! ## One-step tests -/

-- B1, B3, B4: reads after reset
theorem test_rdId : busResponse (pins (rd 0x00) base) = (0x494D5207, false) := by decide
theorem test_rdDbPeriod : busResponse (pins (rd 0x20) base) = (0x64, false) := by decide
theorem test_rdPollPeriod : busResponse (pins (rd 0x24) base) = (0x3E8, false) := by decide
theorem test_rdXcvTimeout : busResponse (pins (rd 0x28) base) = (0x24, false) := by decide
theorem test_rdDispPeriod : busResponse (pins (rd 0x2C) { base with dispPeriod := 9 }) = (9, false) := by decide
theorem test_rdCmd : busResponse (pins (rd 0x14) base) = (0, false) := by decide
-- Program 2, cycles 3 and 5
theorem test_rdStatus : busResponse (pins (rd 0x08) { busy .erasing .erase with sticky := 8 }) = (0x00080D00, false) := by
  decide
theorem test_rdStatus_programming :
    busResponse (pins (rd 0x08) { busy .programming .program with sticky := 8 }) = (0x00080E00, false) := by decide
-- Program 1, end state: STATUS = 0x11
theorem test_rdCtrl : busResponse (pins (rd 0x04) { base with ctrl := 3 }) = (3, false) := by decide
theorem test_rdFlags : busResponse (pins (rd 0x0C) { base with flags := 0x10 }) = (0x10, false) := by decide
theorem test_rdIrqEn : busResponse (pins (rd 0x10) { base with irqEn := 0x0B }) = (0x0B, false) := by decide
-- key '6': KEY = 0x4206
theorem test_rdKey : busResponse (pins (rd 0x18) bouncing) = (0x00004206, false) := by decide
-- Program 2, end state: ERR = 0x00050000
theorem test_rdErr : busResponse (pins (rd 0x1C) { base with busCause := 5 }) = (0x00050000, false) := by decide
theorem test_rdErr_fields :
    busResponse (pins (rd 0x1C) { base with tagCause := 4, cmdCause := 2 }) = (0x00000204, false) := by decide
theorem test_rdDbCount : busResponse (pins (rd 0x30) bouncing) = (1, false) := by decide
theorem test_rdPollCount : busResponse (pins (rd 0x34) { base with pollCount := 4 }) = (4, false) := by decide
theorem test_rdXcvCount : busResponse (pins (rd 0x38) (waiting .polling .poll)) = (2, false) := by decide
theorem test_rdDispCount : busResponse (pins (rd 0x3C) { base with dispCount := 7 }) = (7, false) := by decide
-- Program 4, cycles 20 to 23
theorem test_rdTagUidlen : busResponse (pins (rd 0x40) { base with tagUidlen := 4 }) = (4, false) := by decide
theorem test_rdTagUid0 : busResponse (pins (rd 0x44) { base with tagUid0 := 0xDEADBEEF }) = (0xDEADBEEF, false) := by
  decide
theorem test_rdTagUid1 : busResponse (pins (rd 0x48) { base with tagUid1 := 0xA7A6A5A4 }) = (0xA7A6A5A4, false) := by
  decide
theorem test_rdTagUid2 : busResponse (pins (rd 0x4C) { base with tagUid2 := 0xA9A8 }) = (0x0000A9A8, false) := by decide
theorem test_rdTagData0 : busResponse (pins (rd 0x50) { base with tagData0 := 0x03020100 }) = (0x03020100, false) := by
  decide
theorem test_rdTagData1 : busResponse (pins (rd 0x54) { base with tagData1 := 0x07060504 }) = (0x07060504, false) := by
  decide
theorem test_rdTagData2 : busResponse (pins (rd 0x58) { base with tagData2 := 0x0B0A0908 }) = (0x0B0A0908, false) := by
  decide
theorem test_rdTagData3 : busResponse (pins (rd 0x5C) { base with tagData3 := 0x0F0E0D0C }) = (0x0F0E0D0C, false) := by
  decide

/-- LEDGER = 1, 2, …, 15 (F9). -/
def counted : State := { base with ledger := #v[1, 2, 3, 4, 5, 6, 7, 8, 9, 10, 11, 12, 13, 14, 15] }

theorem test_rdLedger : ∀ k : Fin 15,
    busResponse (pins (rd (BitVec.ofNat 8 (0x60 + 4 * k.val))) counted) = (BitVec.ofNat 32 (k.val + 1), false) := by decide
theorem test_wrLedger : ∀ k j : Fin 15,
    (after (pins (wr (BitVec.ofNat 8 (0x60 + 4 * k.val)) 0x99) counted)).ledger[j] =
      if j = k then 0x99 else BitVec.ofNat 32 (j.val + 1) := by decide
-- F5, Program 2 cycle 2: a LEDGER write while FCC is busy
theorem test_wrLedger_busy :
    (let s := pins (wr 0x60 1) (busy .erasing .erase)
     (busResponse s, (after s).sticky, (after s).busCause, (after s).ledger[0])) = ((0, true), 8, 5, 0) := by decide
-- R23: reserved bits of CTRL and IRQ_EN are dropped
theorem test_wrCtrl : (after (pins (wr 0x04 0xFFFFFFF6) base)).ctrl = 6 := by decide
theorem test_wrIrqEn : (after (pins (wr 0x10 0xFFFFFFF2) base)).irqEn = 0x12 := by decide
-- R245, R246: W1C
theorem test_wrFlags : (after (pins (wr 0x0C 0xA) { base with flags := 0x1F })).flags = 0x15 := by decide
theorem test_wrStatus : (after (pins (wr 0x08 0x00080000) { base with sticky := 0xC })).sticky = 4 := by decide
theorem test_wrDbPeriod : (after (pins (wr 0x20 20) bouncing)).dbPeriod = 20 := by decide
theorem test_wrPollPeriod : (after (pins (wr 0x24 5) base)).pollPeriod = 5 := by decide
theorem test_wrXcvTimeout : (after (pins (wr 0x28 4) base)).xcvTimeout = 4 := by decide
theorem test_wrDispPeriod : (after (pins (wr 0x2C 0xFFFFFFFF) base)).dispPeriod = 0xFFFFFFFF := by decide
-- R249: a malformed command succeeds on the bus and is recorded
theorem test_wrCmd_reserved_op :
    (let s := pins (wr 0x14 0xFF) base
     (busResponse s, (after s).sticky, (after s).cmdCause)) = ((0, false), 4, 1) := by decide
theorem test_wrCmd_reserved_bits : (after (pins (wr 0x14 0x80000005) base)).cmdCause = 3 := by decide
theorem test_nop :
    (let s := pins (wr 0x14 0) { base with flags := 1 }
     (busResponse s, (after s).flags, (after s).sticky, (after s).fccState)) = ((0, false), 1, 0, .idle) := by decide
-- T14, T15: SESSION_CLOSE in PRESENT and in READING
theorem test_sessionClose :
    (after (pins (wr 0x14 1) { polling with tagState := .present })).tagState = .polling := by decide
theorem test_sessionClose_reading : (after (pins (wr 0x14 1) (waiting .reading .read))).tagState = .reading := by decide
-- F1, F3: COMMIT when idle and when busy
theorem test_commit :
    (let t := after (pins (wr 0x14 2) base)
     (t.fccState, (outputs t).flReqValid, (outputs t).flReqOp, irqHold t)) = (.erasing, true, 0, true) := by decide
theorem test_commit_busy :
    (let t := after (pins (wr 0x14 2) (busy .erasing .erase))
     (t.fccState, t.sticky, t.cmdCause)) = (.erasing, 4, 2) := by decide
-- F7, F4: LOAD when idle and when busy
theorem test_load :
    (let t := after (pins (wr 0x14 3) base)
     (t.fccState, (outputs t).flReqOp, (outputs t).flReqLen, irqHold t)) = (.loading, 2, 60, false) := by decide
theorem test_load_busy : (after (pins (wr 0x14 3) (busy .programming .program))).cmdCause = 2 := by decide
theorem test_setSwctx : (after (pins (wr 0x14 4) base)).flags = 4 := by decide
-- T1: the three reader requests; T4: a collision is answered as OK
theorem test_rPoll :
    (let t := after polling
     (t.tagState, (outputs t).rdReqValid, (outputs t).rdReqOp, t.xcvCount)) = (.polling, true, 0, 4) := by decide
theorem test_rAuth :
    (let t := after (pins (rsp 1 0) (waiting .polling .poll))
     (t.tagState, (outputs t).rdReqValid, (outputs t).rdReqOp, (outputs t).rdReqBlock)) = (.authenticating, true, 1, 4) := by
  decide
theorem test_rRead :
    (let t := after (pins (rsp 0 4) (waiting .authenticating .auth))
     (t.tagState, (outputs t).rdReqOp, t.uidSh, t.tagUid0)) = (.reading, 2, 0xDEADBEEF, 0) := by decide
theorem test_rRead_bad_length :
    (let t := after (pins (rsp 0 11) (waiting .authenticating .auth))
     (t.tagState, t.sticky, t.tagCause)) = (.polling, 2, 1) := by decide
-- T1: publication; T2, T6, T9: the deadline
theorem test_publish :
    (let t := after (pins (rsp 0 0) (waiting .reading .read))
     (t.tagState, t.flags, t.tagUidlen, t.tagUid0, t.tagData3)) = (.present, 2, 4, 0xDEADBEEF, 0x0F0E0D0C) := by decide
theorem test_read_deadline :
    (let t := after { waiting .reading .read with xcvCount := 1 }
     (t.tagState, t.tagCause, (outputs t).rdAbort)) = (.polling, 4, true) := by decide
-- T2, T11: in the request cycle (c7) the deadline's count holds at a tick, and a response is ignored; it counts from c8 on
theorem test_request_cycle :
    (let s : State := { waiting .polling .poll with rdIssue := true, xcvCount := 4, inputs := [rsp 0 4] }
     (tick s, (after s).xcvCount, (after s).tagState, (after (after s)).xcvCount)) = (true, 4, .polling, 3) := by decide
-- F6: the page image on the port, and F1: the end of a commit
theorem test_flProgram :
    (let t := after (pins ack (busy .erasing .erase))
     (t.fccState, (outputs t).flReqValid, (outputs t).flReqOp, (outputs t).flReqLen)) = (.programming, true, 1, 256) := by
  decide
theorem test_page_image :
    (let m := pageImage ((base.ledger.set 1 0x12345678).set 14 0xAABBCCDD)
     (m.take 8, (m.drop 56).take 6)) =
      ([0, 0, 0, 0, 0x78, 0x56, 0x34, 0x12], [0xDD, 0xCC, 0xBB, 0xAA, 0xFF, 0xFF]) := by decide
theorem test_fcc_done :
    (let t := after (pins ack (busy .programming .program))
     (t.fccState, t.flags, irqHold t)) = (.idle, 0x10, false) := by decide
-- F7: the end of a load; F2: an acknowledgement in the request cycle is ignored
theorem test_flRead :
    (let t := after (pins ack (busy .loading .read))
     (t.fccState, t.ledger[0], t.ledger[1], t.flags)) = (.idle, 0x32, 0, 0x10) := by decide
theorem test_flErase : (after (pins ack { busy .erasing .erase with flIssue := true })).fccState = .erasing := by decide
-- the key table: every valid mask gives its KEY value
theorem test_keymap : ∀ r c : Fin 4,
    keyDecode base.params (1#4 <<< r.val) (1#4 <<< c.val) =
      some (#[0x1, 0x2, 0x3, 0xA, 0x4, 0x5, 0x6, 0xB, 0x7, 0x8, 0x9, 0xC, 0xE, 0x0, 0xF, 0xD][4 * r.val + c.val]!) := by
  decide
-- K1: capture and finalize; K3: two columns; K5, K6: overrun
theorem test_capture :
    (let t := after (pins { Inputs.quiet with kpRow := 2, kpCol := 4 } scanning)
     (keyWord t, t.kpState, t.dbCount, (outputs t).senseMode)) = (0x4206, .rowsArmed, 3, true) := by decide
theorem test_finalize : (let t := after bouncing; (t.flags, t.kpState, t.dbCount)) = (1, .colsArmed, 0) := by decide
theorem test_two_columns :
    (let t := after (pins { Inputs.quiet with kpRow := 1, kpCol := 3 } scanning)
     (t.kpState, t.dbCount, t.sticky, keyWord t)) = (.colsArmed, 0, 0, 0) := by decide
theorem test_overrun_with_clear :
    (let t := after (pins { wr 0x0C 1 with kpRow := 1, kpCol := 2 } { scanning with flags := 1 })
     (t.sticky, t.flags, t.kpState)) = (1, 0, .colsArmed) := by decide
-- K12: set wins over clear
theorem test_set_wins : (after (pins (wr 0x0C 1) { bouncing with flags := 0 })).flags = 1 := by decide
-- the display tick (R298)
theorem test_display_tick :
    (let t := after { base with ctrl := 8, dispPeriod := 2, dispCount := 1 }
     (t.flags, t.dispCount)) = (8, 2) := by decide
-- X1, X3: reset during a commit
theorem test_reset :
    (let t := after (pins { wr 0x04 1 with rst := true } { polling with flags := 3, xcvTimeout := 4 })
     (t.ctrl, t.tagState, t.flags, t.xcvTimeout)) = (0, .idle, 0, 36) := by decide
-- an instruction placed where the next step runs it
theorem test_fetch_read : busResponse (State.reset.withFetchWord 16 0x200) = (0x494D5207, false) := by decide
theorem test_fetch_command : (after (State.reset.withFetchWord 32 2)).fccState = .erasing := by decide
theorem test_fetch_request : (after (State.reset.withFetchWord 8 2)).tagState = .reading := by decide

/-! ## Witnesses: for each obligation with hypotheses, a state that meets them, for each clause, at the ends of its range -/

theorem witness_DescriptorChecksInOrder :
    (decodeBus (busDescriptor true 1 0x04) 0 = .error .size ∧ decodeBus (busDescriptor false 3 0xFF) 0 = .error .size)
    ∧ (decodeBus (busDescriptor true 2 0x01) 0 = .error .misaligned
      ∧ decodeBus (busDescriptor false 2 0xFF) 0 = .error .misaligned)
    ∧ (decodeBus (busDescriptor true 2 0x9C) 0 = .error .unmapped ∧ decodeBus (busDescriptor false 2 0xFC) 0 = .error .unmapped)
    ∧ (decodeBus (busDescriptor true 2 0x00) 0 = .error .writeRo ∧ decodeBus (busDescriptor true 2 0x5C) 0 = .error .writeRo)
    ∧ decodeBus (busDescriptor true 2 0x98) 0 = .ok (.wrLedger14 0)
    ∧ decodeBus (busDescriptor false 2 0x98) 0 = .ok .rdLedger14 := by decide

theorem witness_EveryCycleHasANextState : (input base).rst = false := rfl

theorem witness_StepRunsTheHostAccess :
    let s := pins (wr 0x04 1) base
    (input s).rst = false ∧ (input s).busValid = true
    ∧ decodeBus (busDescriptor (input s).busWe (input s).busSize (input s).busAddr) (input s).busWdata = .ok (.wrCtrl 1) := by
  decide

/-- A state and its next state meet the premise on a cycle. -/
def cycle (s t : State) : Prop := (input s).rst = false ∧ step s = .next t

theorem witness_StepIssuesThePortRequest :
    (∃ t r, cycle polling t ∧ exec .rPoll polling = .next r ∧ pollStarts polling = true)
    ∧ (let s := pins (rsp 0 0) (waiting .polling .poll)
       ∃ t r, cycle s t ∧ exec .rAuth s = .next r ∧ authStarts s = true)
    ∧ (let s := pins (rsp 0 10) (waiting .authenticating .auth)
       ∃ t r, cycle s t ∧ exec .rRead s = .next r ∧ readStarts s = true)
    ∧ (let s := pins (wr 0x14 2) base
       ∃ t r, cycle s t ∧ exec .flErase s = .next r ∧ s.fccState = .idle ∧ hostCommand s = some .commit)
    ∧ (let s := pins (wr 0x14 3) base
       ∃ t r, cycle s t ∧ exec .flRead s = .next r ∧ s.fccState = .idle ∧ hostCommand s = some .load)
    ∧ (let s := pins ack (busy .erasing .erase)
       ∃ t r, cycle s t ∧ exec .flProgram s = .next r ∧ s.fccState = .erasing ∧ flAcked s = true) :=
  ⟨⟨_, _, ⟨rfl, rfl⟩, rfl, by decide⟩, ⟨_, _, ⟨rfl, rfl⟩, rfl, by decide⟩, ⟨_, _, ⟨rfl, rfl⟩, rfl, by decide⟩,
    ⟨_, _, ⟨rfl, rfl⟩, rfl, by decide⟩, ⟨_, _, ⟨rfl, rfl⟩, rfl, by decide⟩, ⟨_, _, ⟨rfl, rfl⟩, rfl, by decide⟩⟩

/-- The premises of the statements that compare a cycle with the same cycle without the access. -/
def accessed (s t : State) : Prop :=
  (input s).rst = false ∧ (input s).busValid = true ∧ step (withoutAccess s) = .next t

theorem witness_RefusedAccessOnlyRecordsItsCause :
    (∃ t, accessed (pins { wr 0x04 1 with busSize := 0 } base) t) ∧ (∃ t, accessed (pins { rd 0x00 with busSize := 3 } base) t)
    ∧ (∃ t, accessed (pins (rd 0x01) base) t) ∧ (∃ t, accessed (pins (wr 0xFF 0) base) t)
    ∧ (∃ t, accessed (pins (rd 0x9C) base) t) ∧ (∃ t, accessed (pins (wr 0xFC 0) base) t)
    ∧ (∃ t, accessed (pins (wr 0x00 0) base) t) ∧ (∃ t, accessed (pins (wr 0x5C 0) base) t)
    ∧ (∃ t, accessed (pins (wr 0x60 0) (busy .erasing .erase)) t ∧ (busy .erasing .erase).fccState ≠ .idle)
    ∧ (∃ t, accessed (pins (wr 0x98 0) (busy .loading .read)) t ∧ (busy .loading .read).fccState ≠ .idle)
    ∧ (∃ t, accessed (pins (rd 0x60) (busy .erasing .erase)) t) ∧ (∃ t, accessed (pins (wr 0x98 0) base) t) :=
  ⟨⟨_, rfl, rfl, rfl⟩, ⟨_, rfl, rfl, rfl⟩, ⟨_, rfl, rfl, rfl⟩, ⟨_, rfl, rfl, rfl⟩, ⟨_, rfl, rfl, rfl⟩, ⟨_, rfl, rfl, rfl⟩,
    ⟨_, rfl, rfl, rfl⟩, ⟨_, rfl, rfl, rfl⟩, ⟨_, ⟨rfl, rfl, rfl⟩, by decide⟩, ⟨_, ⟨rfl, rfl, rfl⟩, by decide⟩,
    ⟨_, rfl, rfl, rfl⟩, ⟨_, rfl, rfl, rfl⟩⟩

theorem witness_ReadCycleHasNoSideEffect :
    (∃ t, accessed (pins (rd 0x00) base) t ∧ (input (pins (rd 0x00) base)).busSize = 2)
    ∧ (∃ t, accessed (pins (rd 0x98) base) t ∧ (input (pins (rd 0x98) base)).busAddr.toNat < 0x9C) :=
  ⟨⟨_, ⟨rfl, rfl, rfl⟩, rfl⟩, ⟨_, ⟨rfl, rfl, rfl⟩, by decide⟩⟩

theorem witness_ControlWriteActsFromTheNextCycle :
    (∃ t u, step (withoutAccess base) = .next t ∧ step base = .next u ∧ fetch base = .none)
    ∧ (∃ t, accessed (pins (wr 0x04 3) base) t ∧ fetch (pins (wr 0x04 3) base) = .run (.wrCtrl 3))
    ∧ (∃ t, accessed (pins (wr 0x10 3) base) t ∧ fetch (pins (wr 0x10 3) base) = .run (.wrIrqEn 3))
    ∧ (∃ t, accessed (pins (wr 0x20 3) base) t ∧ fetch (pins (wr 0x20 3) base) = .run (.wrDbPeriod 3))
    ∧ (∃ t, accessed (pins (wr 0x24 3) base) t ∧ fetch (pins (wr 0x24 3) base) = .run (.wrPollPeriod 3))
    ∧ (∃ t, accessed (pins (wr 0x28 3) base) t ∧ fetch (pins (wr 0x28 3) base) = .run (.wrXcvTimeout 3))
    ∧ (∃ t, accessed (pins (wr 0x2C 3) base) t ∧ fetch (pins (wr 0x2C 3) base) = .run (.wrDispPeriod 3)) :=
  ⟨⟨_, _, rfl, rfl, by decide⟩, ⟨_, ⟨rfl, rfl, rfl⟩, by decide⟩, ⟨_, ⟨rfl, rfl, rfl⟩, by decide⟩, ⟨_, ⟨rfl, rfl, rfl⟩, by decide⟩,
    ⟨_, ⟨rfl, rfl, rfl⟩, by decide⟩, ⟨_, ⟨rfl, rfl, rfl⟩, by decide⟩, ⟨_, ⟨rfl, rfl, rfl⟩, by decide⟩⟩

/-- A write and, in the next cycle, a read. -/
def writeRead (a : BitVec 8) (v : Word) : State := { base with inputs := [wr a v, rd a] }

/-- A write of an offset and then a read of it, with the instructions they are. -/
def writtenAndRead (a : BitVec 8) (v : Word) (i j : Instr) : Prop :=
  ∃ t, cycle (writeRead a v) t ∧ (input t).rst = false ∧ fetch (writeRead a v) = .run i ∧ fetch t = .run j

theorem witness_ReadReturnsTheLastWrite :
    writtenAndRead 0x04 3 (.wrCtrl 3) .rdCtrl ∧ writtenAndRead 0x10 3 (.wrIrqEn 3) .rdIrqEn
    ∧ writtenAndRead 0x20 3 (.wrDbPeriod 3) .rdDbPeriod ∧ writtenAndRead 0x24 3 (.wrPollPeriod 3) .rdPollPeriod
    ∧ writtenAndRead 0x28 3 (.wrXcvTimeout 3) .rdXcvTimeout ∧ writtenAndRead 0x2C 3 (.wrDispPeriod 3) .rdDispPeriod
    ∧ (writeRead 0x60 3).fccState = .idle ∧ writtenAndRead 0x60 3 (.wrLedger0 3) .rdLedger0
    ∧ writtenAndRead 0x98 3 (.wrLedger14 3) .rdLedger14 :=
  ⟨⟨_, ⟨rfl, rfl⟩, rfl, by decide, by decide⟩, ⟨_, ⟨rfl, rfl⟩, rfl, by decide, by decide⟩,
    ⟨_, ⟨rfl, rfl⟩, rfl, by decide, by decide⟩, ⟨_, ⟨rfl, rfl⟩, rfl, by decide, by decide⟩,
    ⟨_, ⟨rfl, rfl⟩, rfl, by decide, by decide⟩, ⟨_, ⟨rfl, rfl⟩, rfl, by decide, by decide⟩,
    rfl, ⟨_, ⟨rfl, rfl⟩, rfl, by decide, by decide⟩, ⟨_, ⟨rfl, rfl⟩, rfl, by decide, by decide⟩⟩

theorem witness_LedgerWritesOnlyWhileFccIdle :
    base.fccState = .idle ∧ (busy .programming .program).fccState ≠ .idle ∧
    (let l : List (Nat × Instr) := [(0, Instr.wrLedger0 5), (1, .wrLedger1 5), (2, .wrLedger2 5), (3, .wrLedger3 5), (4, .wrLedger4 5),
      (5, .wrLedger5 5), (6, .wrLedger6 5), (7, .wrLedger7 5), (8, .wrLedger8 5), (9, .wrLedger9 5), (10, .wrLedger10 5),
      (11, .wrLedger11 5), (12, .wrLedger12 5), (13, .wrLedger13 5), (14, .wrLedger14 5)]
     ((0 : Fin 15).val, Instr.wrLedger0 5) ∈ l ∧ ((14 : Fin 15).val, Instr.wrLedger14 5) ∈ l) := by decide

theorem witness_CommandsHaveTheirEffect :
    (let s := { polling with tagState := .present }; s.ctrl.getLsbD 1 = true ∧ s.tagState = .present)
    ∧ base.ctrl.getLsbD 1 = false ∧ polling.tagState ≠ .present ∧ base.fccState = .idle
    ∧ (busy .erasing .erase).fccState ≠ .idle ∧ (busy .loading .read).fccState ≠ .idle := by decide

theorem witness_MalformedCommandOnlyRecordsItsCause :
    256 ≤ (0x100 : Word).toNat ∧ 256 ≤ (0xFFFFFFFF : Word).toNat ∧ (5 ≤ (5 : Word).toNat ∧ (5 : Word).toNat < 256)
    ∧ (5 ≤ (0xFF : Word).toNat ∧ (0xFF : Word).toNat < 256) := by decide

theorem witness_CommandCycleTakesEffect :
    (let s := pins (wr 0x14 1) { polling with tagState := .present, flags := 2 }
     (input s).rst = false ∧ hostCommand s = some .sessionClose ∧ tagEn s = true ∧ s.tagState = .present
      ∧ flagSet s .tagReady = true)
    ∧ (let s := pins (wr 0x14 2) base; (input s).rst = false ∧ hostCommand s = some .commit ∧ s.fccState = .idle)
    ∧ (let s := pins (wr 0x14 3) base; (input s).rst = false ∧ hostCommand s = some .load ∧ s.fccState = .idle)
    ∧ (let s := pins (wr 0x14 2) (busy .erasing .erase); hostCommand s = some .commit ∧ s.fccState ≠ .idle)
    ∧ (let s := pins (wr 0x14 3) (busy .loading .read); hostCommand s = some .load ∧ s.fccState ≠ .idle)
    ∧ (let s := pins (wr 0x14 4) base; (input s).rst = false ∧ hostCommand s = some .setSwctx)
    ∧ ((input base).rst = false ∧ base.fccState = .idle ∧ hostCommand base = none) := by decide

theorem witness_ReaderRequestsAreIssuedInTheirState :
    (tagEn polling = true ∧ polling.tagState = .polling ∧ polling.rdPend = false ∧ pollDue polling = true)
    ∧ (let s := pins (rsp 0 0) (waiting .polling .poll)
       tagEn s = true ∧ s.tagState = .polling ∧ rdOutcome s = some .ok)
    ∧ (let s := pins (rsp 1 0) (waiting .polling .poll)
       tagEn s = true ∧ s.tagState = .polling ∧ rdOutcome s = some .collision)
    ∧ (let s := pins (rsp 0 1) (waiting .authenticating .auth)
       tagEn s = true ∧ s.tagState = .authenticating ∧ rdOutcome s = some .ok ∧ 1 ≤ (input s).rspUidlen.toNat
        ∧ (input s).rspUidlen.toNat ≤ 10)
    ∧ (let s := pins (rsp 0 10) (waiting .authenticating .auth)
       tagEn s = true ∧ s.tagState = .authenticating ∧ rdOutcome s = some .ok ∧ 1 ≤ (input s).rspUidlen.toNat
        ∧ (input s).rspUidlen.toNat ≤ 10)
    ∧ tagEn base = false ∧ (waiting .reading .read).tagState ≠ .polling ∧ (waiting .polling .poll).rdPend = true
    ∧ polling.tagState ≠ .authenticating ∧ pollDue { polling with pollCount := 2 } = false
    ∧ rdOutcome (waiting .polling .poll) = none
    ∧ rdOutcome (pins (rsp 2 0) (waiting .polling .poll)) = some .timeout
    ∧ rdOutcome (pins (rsp 3 0) (waiting .polling .poll)) = some .error
    ∧ rdOutcome (waiting .authenticating .auth) ≠ some .ok
    ∧ rdOutcome (pins (rsp 1 4) (waiting .authenticating .auth)) ≠ some .ok
    ∧ (input (pins (rsp 0 0) (waiting .authenticating .auth))).rspUidlen.toNat = 0
    ∧ 10 < (input (pins (rsp 0 11) (waiting .authenticating .auth))).rspUidlen.toNat := by decide

theorem witness_FlashRequestsAreIssuedInTheirState :
    base.fccState = .idle ∧ (busy .loading .read).fccState ≠ .idle ∧ base.fccState ≠ .erasing
    ∧ (let s := pins ack (busy .erasing .erase)
       s.fccState = .erasing ∧ s.flPend = true ∧ s.flIssue = false ∧ (input s).flAck = true)
    ∧ flAcked (busy .erasing .erase) = false := by decide

theorem witness_DisabledKeypadIsHeld :
    let s : State := { bouncing with ctrl := 0 }
    (input s).rst = false ∧ kpEn s = false := by decide

theorem witness_EnabledKeypadArmsItsColumns :
    let s := pins { Inputs.quiet with kpCol := 1 } { base with ctrl := 1 }
    (input s).rst = false ∧ kpEn s = true ∧ s.kpState = .disabled ∧ (input (after s)).kpCol &&& ~~~(input s).kpCol = 0 := by
  decide

theorem witness_ValidColumnEdgeCapturesTheKey :
    let s := pins { Inputs.quiet with kpRow := 8, kpCol := 8 } scanning
    (input s).rst = false ∧ kpEn s = true ∧ s.kpState = .colsArmed ∧ (input s).kpCol &&& ~~~s.colPrev ≠ 0
    ∧ flagSet s .keyReady = false ∧ keyDecode s.params (input s).kpRow (input s).kpCol = some 0xD := by decide

theorem witness_KeyDecodeNeedsOneRowAndOneColumn :
    ((1 : BitVec 4) = 1#4 <<< (0 : Fin 4).val ∧ (8 : BitVec 4) = 1#4 <<< (3 : Fin 4).val)
    ∧ (∀ r : Fin 4, (3 : BitVec 4) ≠ 1#4 <<< r.val) ∧ (∀ c : Fin 4, (0 : BitVec 4) ≠ 1#4 <<< c.val) := by decide

/-- The premises of the statement on COLS_ARMED without a capture. -/
def armed (s : State) : Prop := (input s).rst = false ∧ kpEn s = true ∧ s.kpState = .colsArmed

theorem witness_UnusableColumnEdgeIsDropped :
    (let s := pins { Inputs.quiet with kpRow := 1, kpCol := 2 } { scanning with colPrev := 2 }
     armed s ∧ (input s).kpCol &&& ~~~s.colPrev = 0)
    ∧ (let s := pins { Inputs.quiet with kpRow := 1, kpCol := 2 } { scanning with flags := 1 }
       armed s ∧ (input s).kpCol &&& ~~~s.colPrev ≠ 0 ∧ flagSet s .keyReady = true)
    ∧ (let s := pins { Inputs.quiet with kpRow := 1, kpCol := 3 } scanning
       armed s ∧ (input s).kpCol &&& ~~~s.colPrev ≠ 0 ∧ flagSet s .keyReady = false
        ∧ keyDecode s.params (input s).kpRow (input s).kpCol = none) := by unfold armed; decide

/-- The premises of the debounce statement. -/
def debouncing (s : State) : Prop :=
  (input s).rst = false ∧ kpEn s = true ∧ s.kpState = .rowsArmed ∧ keyFinalizes s = false ∧ s.dbCount ≠ 0

theorem witness_DebounceTimerRestartsAndCounts :
    (let s := pins { Inputs.quiet with kpRow := 2 } bouncing; debouncing s ∧ (input s).kpRow ≠ s.rowPrev)
    ∧ (let s := pins { Inputs.quiet with kpRow := 2 } { bouncing with rowPrev := 2 }
       debouncing s ∧ tick s = true ∧ s.dbCount = 1)
    ∧ (let s : State := { bouncing with dbCount := 2 }; debouncing s ∧ tick s = true ∧ s.dbCount ≠ 1)
    ∧ (let s : State := { bouncing with presc := 7 }; debouncing s ∧ tick s = false) := by
  unfold debouncing; decide

theorem witness_ClearRowsAtExpiryFinalizeTheKey :
    (input bouncing).rst = false ∧ kpEn bouncing = true ∧ bouncing.kpState = .rowsArmed
    ∧ (input bouncing).kpRow = bouncing.rowPrev ∧ tick bouncing = true ∧ bouncing.dbCount = 1
    ∧ (input bouncing).kpRow = 0 := by decide

theorem witness_ColumnsAreIgnoredWhileRowsArmed :
    ∃ t, cycle bouncing t ∧ kpEn bouncing = true ∧ bouncing.kpState = .rowsArmed := ⟨_, ⟨rfl, rfl⟩, by decide, rfl⟩

/-- A key that bounces to open between ticks and is down at the tick. -/
def stuck : State :=
  { bouncing with
    rowPrev := 2
    params := { base.params with tickPred := 1 }
    inputs := [Inputs.quiet, { Inputs.quiet with kpRow := 2 }] }

theorem witness_StuckKeyNeverFinalizes :
    kpEn stuck = true ∧ stuck.kpState = .rowsArmed ∧ flagSet stuck .keyReady = false
    ∧ (∀ m, m < 2 → ∀ u, Host.Core.run Sys2Proof.core m stuck = .next u →
      (input u).rst = false ∧ (tick u = true → (input u).kpRow ≠ 0) ∧ hostWritesCtrl u = false)
    ∧ Host.Core.run Sys2Proof.core 2 stuck = .next (after (after stuck)) := by
  refine ⟨by decide, rfl, by decide, fun m hm u hu => ?_, rfl⟩
  match m, hm with
  | 0, _ => exact next_of_run hu (v := stuck) rfl ▸ by decide
  | 1, _ => exact next_of_run hu (v := after stuck) rfl ▸ by decide

/-- A released key two ticks before its end. -/
def released : State := { bouncing with dbCount := 2 }

theorem witness_KeyReadyComesAtTheLastTick :
    released.params.tickCycles = 1 ∧ released.presc = 0 ∧ kpEn released = true ∧ released.kpState = .rowsArmed
    ∧ flagSet released .keyReady = false ∧ released.rowPrev = 0 ∧ 1 < released.dbCount.toNat ∧ 2 = released.dbCount.toNat
    ∧ released.dbCount ≠ 0
    ∧ (∀ m, m < 2 → ∀ u, Host.Core.run Sys2Proof.core m released = .next u →
      (input u).rst = false ∧ (input u).kpRow = 0 ∧ hostWritesCtrl u = false)
    ∧ Host.Core.run Sys2Proof.core 1 released = .next (after released)
    ∧ Host.Core.run Sys2Proof.core 2 released = .next (after (after released)) := by
  refine ⟨rfl, rfl, by decide, rfl, by decide, rfl, by decide, by decide, by decide, fun m hm u hu => ?_, rfl, rfl⟩
  match m, hm with
  | 0, _ => exact next_of_run hu (v := released) rfl ▸ by decide
  | 1, _ => exact next_of_run hu (v := after released) rfl ▸ by decide

theorem witness_SenseModeFollowsTheDebounceCycle : ∃ t, cycle bouncing t := ⟨_, rfl, rfl⟩

theorem witness_KeyIsWrittenOnlyByAValidCapture :
    ∃ t, cycle { scanning with flags := 1 } t ∧ keyCaptured { scanning with flags := 1 } = false
      ∧ flagSet { scanning with flags := 1 } .keyReady = true := ⟨_, ⟨rfl, rfl⟩, by decide, by decide⟩

theorem witness_DisabledTagIsIdle :
    let s : State := { waiting .reading .read with ctrl := 0 }
    (input s).rst = false ∧ tagEn s = false := by decide

theorem witness_PollTriggerFollowsTheMode :
    ((input polling).rst = false ∧ tagEn polling = true ∧ polling.tagState = .polling ∧ polling.rdPend = false)
    ∧ (let s : State := { polling with ctrl := 6 }
       (input s).rst = false ∧ tagEn s = true ∧ tagMode s = true ∧ s.tagState = .polling ∧ s.rdPend = false)
    ∧ (let s : State := { polling with tagState := .idle }; (input s).rst = false ∧ tagEn s = true ∧ s.tagState = .idle)
    ∧ (∀ s ∈ [{ polling with pollCount := 2 }, waiting .polling .poll, waiting .authenticating .auth, waiting .reading .read],
      (input s).rst = false ∧ tagEn s = true ∧ rdOutcome s = none
        ∧ (s.tagState = .polling ∨ s.tagState = .authenticating ∨ s.tagState = .reading)) := by
  decide

theorem witness_TriggerIssuesThePoll :
    (input polling).rst = false ∧ tagEn polling = true ∧ polling.tagState = .polling ∧ polling.rdPend = false
    ∧ pollDue polling = true := by decide

theorem witness_PollResponseStartsAuthentication :
    (∀ b : BitVec 2, let s := pins (rsp b 0) (waiting .polling .poll)
      (input s).rst = false ∧ tagEn s = true ∧ s.tagState = .polling ∧ rdOutcome s = some (rdStatus b))
    ∧ rdStatus 0 = .ok ∧ rdStatus 1 = .collision ∧ rdStatus 2 = .timeout ∧ rdStatus 3 = .error := by decide

theorem witness_AuthResponseStartsTheReadOrAborts :
    ∀ (b : BitVec 2) (len : BitVec 4), let s := pins (rsp b len) (waiting .authenticating .auth)
      (input s).rst = false ∧ tagEn s = true ∧ s.tagState = .authenticating ∧ rdOutcome s = some (rdStatus b)
      ∧ (input s).rspUidlen = len := by decide

theorem witness_ReadResponsePublishesTheSession :
    let s := pins (rsp 0 0) (waiting .reading .read)
    (input s).rst = false ∧ tagEn s = true ∧ s.tagState = .reading ∧ rdOutcome s = some .ok := by decide

theorem witness_FailedReadAbortsToPolling :
    ∀ b : BitVec 2, b ≠ 0 → let s := pins (rsp b 0) (waiting .reading .read)
      (input s).rst = false ∧ tagEn s = true ∧ s.tagState = .reading ∧ rdOutcome s = some (rdStatus b)
      ∧ rdStatus b ≠ .ok := by decide

/-- The premises of the deadline statement. -/
def transceiving (s : State) : Prop := (input s).rst = false ∧ tagEn s = true ∧ s.rdPend = true

theorem witness_DeadlineEndsTheTransceive :
    (let s : State := { waiting .polling .poll with rdIssue := true }; transceiving s ∧ s.rdIssue = true)
    ∧ (∀ b : BitVec 2, let s := pins (rsp b 0) (waiting .polling .poll)
       transceiving s ∧ s.rdIssue = false ∧ (input s).rspValid = true ∧ (input s).rspStatus = b)
    ∧ (let s : State := { waiting .polling .poll with xcvCount := 1 }
       transceiving s ∧ s.rdIssue = false ∧ (input s).rspValid = false ∧ tick s = true ∧ s.xcvCount = 1)
    ∧ (let s := waiting .reading .read; transceiving s ∧ rdOutcome s = none ∧ s.tagState ≠ .idle) := by
  unfold transceiving; decide

theorem witness_TriggersAreDiscardedOutsidePolling :
    (∃ t, cycle (waiting .reading .read) t ∧ (waiting .reading .read).tagState ≠ .polling)
    ∧ (∃ t, cycle (waiting .polling .poll) t ∧ (waiting .polling .poll).rdPend = true) :=
  ⟨⟨_, ⟨rfl, rfl⟩, by decide⟩, ⟨_, ⟨rfl, rfl⟩, rfl⟩⟩

theorem witness_OpenSessionSuspendsPolling :
    ∃ t, cycle (pins (wr 0x14 1) { polling with tagState := .present }) t ∧ t.tagState ≠ .present :=
  ⟨_, ⟨rfl, rfl⟩, by decide⟩

theorem witness_SessionRegistersChangeOnlyByPublishing :
    (∃ t, cycle polling t ∧ tagPublishes polling = false ∧ readStarts polling = false)
    ∧ (let s := pins (rsp 0 0) (waiting .reading .read); ∃ t, cycle s t ∧ tagPublishes s = true ∧ t.tagState = .present) :=
  ⟨⟨_, ⟨rfl, rfl⟩, by decide, by decide⟩, ⟨_, ⟨rfl, rfl⟩, by decide, rfl⟩⟩

/-- The premises of the statements on an acknowledged flash request. -/
def acknowledged (s : State) (st : FccState) : Prop :=
  (input s).rst = false ∧ s.fccState = st ∧ s.flPend = true ∧ s.flIssue = false ∧ (input s).flAck = true

theorem witness_EraseAcknowledgedStartsTheProgram : acknowledged (pins ack (busy .erasing .erase)) .erasing := by
  unfold acknowledged; decide

theorem witness_ReadAcknowledgedLoadsTheLedger : acknowledged (pins ack (busy .loading .read)) .loading := by
  unfold acknowledged; decide

/-- A busy FCC meets the invariant. -/
theorem busy_inv (i : List Inputs) (l : Vector Word 15) :
    Inv { busy .programming .program with inputs := i, ledger := l } := by
  constructor <;>
    simp [busy, base, State.reset, flagSet, Params.tickCycles, fccBusy, flashWf, flashWfFrom, tagUid, Params.flashSize]

theorem witness_ProgramAcknowledgedEndsTheCommit :
    let s := pins ack (busy .programming .program)
    Inv s ∧ (input s).rst = false ∧ s.fccState = .programming ∧ s.flIssue = false ∧ (input s).flAck = true :=
  ⟨busy_inv _ _, rfl, rfl, rfl, rfl⟩

/-- An erase on the port, acknowledged in its request cycle and not after it. -/
def requested : State := { busy .erasing .erase with flIssue := true, inputs := [ack] }

theorem witness_UnacknowledgedFlashKeepsFccBusy :
    requested.fccState ≠ .idle ∧ irqHold requested = true ∧ (input requested).flAck = true
    ∧ (∀ m, m < 2 → ∀ u, Host.Core.run Sys2Proof.core m requested = .next u →
      (input u).rst = false ∧ ((input u).flAck = false ∨ u.flIssue = true ∨ u.flPend = false))
    ∧ Host.Core.run Sys2Proof.core 2 requested = .next (after (after requested)) := by
  refine ⟨by decide, by decide, by decide, fun m hm u hu => ?_, rfl⟩
  match m, hm with
  | 0, _ => exact next_of_run hu (v := requested) rfl ▸ by decide
  | 1, _ => exact next_of_run hu (v := after requested) rfl ▸ by decide

theorem witness_FlashRequestsHaveOneCause :
    (let s := pins ack (busy .programming .program); Inv s ∧ ∃ t, cycle s t)
    ∧ (let s := pins (wr 0x14 2) base; (∃ t, cycle s t ∧ t.flIssue = true ∧ t.flOp = .erase)) :=
  ⟨⟨busy_inv _ _, _, rfl, rfl⟩, ⟨_, ⟨rfl, rfl⟩, by decide, by decide⟩⟩

theorem witness_FlashAndLedgerHaveOneWriter :
    (∃ t, cycle (busy .erasing .erase) t ∧ flAcked (busy .erasing .erase) = false ∧ (busy .erasing .erase).fccState ≠ .idle)
    ∧ (∃ t, cycle base t ∧ base.fccState = .idle ∧ (input base).busValid = false)
    ∧ (let s := pins (wr 0x2C 7) base; ∃ t, cycle s t ∧ s.fccState = .idle ∧ (input s).busAddr.toNat < 0x60)
    ∧ (let s := pins (wr 0x9C 7) base; ∃ t, cycle s t ∧ s.fccState = .idle ∧ 0x9C ≤ (input s).busAddr.toNat) :=
  ⟨⟨_, ⟨rfl, rfl⟩, by decide, by decide⟩, ⟨_, ⟨rfl, rfl⟩, rfl, rfl⟩, ⟨_, ⟨rfl, rfl⟩, rfl, by decide⟩,
    ⟨_, ⟨rfl, rfl⟩, rfl, by decide⟩⟩

/-- The program acknowledged, then a LOAD, its request cycle, and its acknowledgement with the page's bytes. -/
def committing : State :=
  { busy .programming .program with
    ledger := base.ledger.set 0 0x32
    inputs := [ack, wr 0x14 3, Inputs.quiet, ack] }

set_option maxRecDepth 20000 in
theorem witness_CommitThenLoadRestoresTheLedger :
    Inv committing ∧ (input committing).rst = false ∧ committing.fccState = .programming ∧ flAcked committing = true
    ∧ step committing = .next (after committing)
    ∧ (∀ m, m < 2 → ∀ v, Host.Core.run Sys2Proof.core m (after committing) = .next v →
      (input v).rst = false ∧ hostCommand v ≠ some .commit)
    ∧ Host.Core.run Sys2Proof.core 2 (after committing) = .next (after (after (after committing)))
    ∧ (let u := after (after (after committing))
       (input u).rst = false ∧ u.fccState = .loading ∧ flAcked u = true ∧ flashContract u ∧ step u = .next (after u)) := by
  refine ⟨busy_inv _ _, rfl, rfl, rfl, rfl, fun m hm v hv => ?_, rfl, rfl, rfl, rfl, fun _ => ⟨rfl, rfl, fun _ => ?_⟩, rfl⟩
  · match m, hm with
    | 0, _ => exact next_of_run hv (v := after committing) rfl ▸ by decide
    | 1, _ => exact next_of_run hv (v := after (after committing)) rfl ▸ by decide
  · rfl

/-- Every state of each sub-unit, whose codes the statement on STATUS spells. -/
theorem witness_FieldReadsAnswerTheFields (k : KpState) (t : TagState) (f : FccState) :
    let s : State := { base with kpState := k, tagState := t, fccState := f }
    s.kpState = k ∧ s.tagState = t ∧ s.fccState = f := ⟨rfl, rfl, rfl⟩

theorem witness_RegisterWritesReplaceTheFields : ∃ t, exec (.wrCtrl 0xF) base = .next t := ⟨_, rfl⟩

theorem witness_FlagsAreSetByTheirEventsOnly : ∃ t, cycle (pins (wr 0x0C 1) bouncing) t := ⟨_, rfl, rfl⟩

theorem witness_StickyBitsAreKeptUntilCleared :
    (let s := pins (wr 0x08 0x00070000) { base with sticky := 8 }
     ∃ t, cycle s t ∧ s.sticky.getLsbD 3 = true ∧ fetch s = .run (.wrStatus 0x00070000))
    ∧ (let s := pins (rd 0x9C) base; ∃ t, cycle s t ∧ s.sticky.getLsbD 3 = false ∧ t.sticky.getLsbD 3 = true)
    ∧ (let s := pins (wr 0x14 5) base; ∃ t, cycle s t ∧ s.sticky.getLsbD 2 = false ∧ t.sticky.getLsbD 2 = true) :=
  ⟨⟨_, ⟨rfl, rfl⟩, by decide, by decide⟩, ⟨_, ⟨rfl, rfl⟩, by decide, by decide⟩, ⟨_, ⟨rfl, rfl⟩, by decide, by decide⟩⟩

/-- A cycle in which no error of any class is raised. -/
theorem witness_StickyBits_withoutError :
    (∃ t, cycle base t) ∧ base.kpState ≠ .colsArmed ∧ rdOutcome base = none ∧ (busResponse base).2 = false
    ∧ ¬ ∃ v, fetch base = .run (.wrCmd v) := ⟨⟨_, rfl, rfl⟩, by decide, by decide, by decide, fun ⟨_, h⟩ => nomatch h⟩

theorem witness_DisplayTimerTicksPeriodically :
    let s : State := { base with ctrl := 8, dispPeriod := 2, dispCount := 1 }
    (input s).rst = false ∧ dispEn s = true ∧ s.presc + 1 = s.params.tickCycles ∧ s.dispCount = 1 := by decide

theorem witness_ResetReturnsResetState :
    (let s := pins { Inputs.quiet with rst := true } (busy .loading .read); (input s).rst = true ∧ irqHold s = false)
    ∧ (let s := pins { Inputs.quiet with rst := true } (busy .programming .program)
       (input s).rst = true ∧ irqHold s = true) := by decide

theorem witness_EveryCycleKeepsTheInvariant :
    let s := pins ack (busy .programming .program)
    Inv s ∧ ∃ t, step s = .next t := ⟨busy_inv _ _, _, rfl⟩

end Sys2Proof.Tests
end

section
/-! SUPPORT. What an accepted access says of the bus pins, and everything the host's part of a cycle can do, each case
with the access it comes from. -/

namespace Sys2Proof.Machine

/-! The three fields of a descriptor (R100). -/

theorem busDescriptor_getLsbD (we : Bool) (size : BitVec 2) (addr : BitVec 8) (i : Nat) :
    (busDescriptor we size addr).getLsbD i = if i < 8 then addr.getLsbD i
      else if i - 8 < 2 then size.getLsbD (i - 8) else (BitVec.ofBool we).getLsbD (i - 8 - 2) := by
  change ((BitVec.ofBool we ++ size) ++ addr).getLsbD i = _
  rw [BitVec.getLsbD_append, BitVec.getLsbD_append]

theorem descWe_busDescriptor (we : Bool) (size : BitVec 2) (addr : BitVec 8) :
    descWe (busDescriptor we size addr) = we := by
  simp only [descWe, busDescriptor_getLsbD]
  simp

theorem descSize_busDescriptor (we : Bool) (size : BitVec 2) (addr : BitVec 8) :
    descSize (busDescriptor we size addr) = size := by
  apply BitVec.eq_of_getLsbD_eq
  intro i hi
  simp [descSize, busDescriptor_getLsbD, hi]

theorem descAddr_busDescriptor (we : Bool) (size : BitVec 2) (addr : BitVec 8) :
    descAddr (busDescriptor we size addr) = addr := by
  apply BitVec.eq_of_getLsbD_eq
  intro i hi
  simp [descAddr, busDescriptor_getLsbD, hi]

/-- The two low bits of an offset are 0 exactly for a word-aligned one. -/
theorem extractLsb_two_eq_zero_iff (a : BitVec 8) : a.extractLsb' 0 2 = 0 ↔ a.toNat % 4 = 0 := by
  rw [← BitVec.toNat_inj, BitVec.extractLsb'_toNat]
  simp

/-- An access is accepted when no check of R74 fails and its register can be read or written (R100, R101). -/
theorem decodeBus_eq_ok_iff {d : BitVec 11} {v : Word} {i : Instr} :
    decodeBus d v = .ok i ↔ descSize d = 2 ∧ (descAddr d).toNat % 4 = 0 ∧ (descAddr d).toNat < 0x9C ∧
      (if descWe d then decodeWrite (descAddr d) v else decodeRead (descAddr d)) = .ok i := by
  rw [← extractLsb_two_eq_zero_iff]
  by_cases size : descSize d = 2#2
  · by_cases align : (descAddr d).extractLsb' 0 2 = 0#2
    · by_cases mapped : (descAddr d).toNat < 0x9C
      · simp [decodeBus, size, align, mapped, Nat.not_le.mpr mapped]
      · simp [decodeBus, size, align, mapped, Nat.not_lt.mp mapped]
    · simp [decodeBus, size, align]
  · simp [decodeBus, size]

/-- The accesses that write LEDGER (R247). -/
def writesLedger : Instr → Bool
  | .wrLedger0 _ | .wrLedger1 _ | .wrLedger2 _ | .wrLedger3 _ | .wrLedger4 _ | .wrLedger5 _ | .wrLedger6 _
  | .wrLedger7 _ | .wrLedger8 _ | .wrLedger9 _ | .wrLedger10 _ | .wrLedger11 _ | .wrLedger12 _ | .wrLedger13 _
  | .wrLedger14 _ => true
  | _ => false

theorem decodeRead_writes_no_ledger {a : BitVec 8} {i : Instr} (h : decodeRead a = .ok i) : writesLedger i = false := by
  unfold decodeRead at h
  split at h <;> cases h <;> rfl

/-- The LEDGER writes are those from offset 0x60 on (R101). -/
theorem decodeWrite_writesLedger {a : BitVec 8} {v : Word} {i : Instr} (h : decodeWrite a v = .ok i) :
    writesLedger i = decide (0x60 ≤ a.toNat) := by
  unfold decodeWrite at h
  split at h <;> cases h <;> rfl

theorem fetch_eq_run_iff {s : State} {i : Instr} : fetch s = .run i ↔ (input s).busValid = true ∧
    decodeBus (busDescriptor (input s).busWe (input s).busSize (input s).busAddr) (input s).busWdata = .ok i := by
  unfold fetch
  split
  · next h => simp at h; simp [h]
  · next h =>
    split
    · next j hd => simp at h; simp [h, hd]
    · next c hd => simp [hd]

/-- A LEDGER write on the pins is a word write of one of the fifteen LEDGER offsets (R101). -/
theorem fetch_ledger_pins {s : State} {i : Instr} (h : fetch s = .run i) (hi : writesLedger i = true) :
    (input s).busValid = true ∧ (input s).busWe = true ∧ (input s).busSize = 2 ∧ (input s).busAddr.toNat % 4 = 0
      ∧ 0x60 ≤ (input s).busAddr.toNat ∧ (input s).busAddr.toNat < 0x9C := by
  obtain ⟨hv, hd⟩ := fetch_eq_run_iff.mp h
  rw [decodeBus_eq_ok_iff, descWe_busDescriptor, descSize_busDescriptor, descAddr_busDescriptor] at hd
  obtain ⟨hsize, halign, hlt, hreg⟩ := hd
  split at hreg
  · next hwe =>
    have offset : 0x60 ≤ (input s).busAddr.toNat := by simpa [decodeWrite_writesLedger hreg] using hi
    exact ⟨hv, hwe, hsize, halign, offset, hlt⟩
  · simp [decodeRead_writes_no_ledger hreg] at hi

/-! Command words (R102, R103, R249). -/

theorem reservedBitsClear_iff (w : Word) : reservedBitsClear w = true ↔ w.toNat < 256 := by
  rw [reservedBitsClear, beq_iff_eq, ← BitVec.toNat_inj, BitVec.extractLsb'_toNat]
  simp [Nat.shiftRight_eq_div_pow]
  omega

/-- A word below 256 is its own OP field. -/
theorem opField_toNat {w : Word} (h : w.toNat < 256) : (w.extractLsb' 0 8).toNat = w.toNat := by
  rw [BitVec.extractLsb'_toNat]
  simp
  omega

theorem decodeCmd_error_ge {w : Word} {c : CmdCause} (h : decodeCmd w = .error c) : 5 ≤ w.toNat := by
  unfold decodeCmd at h
  split at h
  · next hr =>
    have hw : ¬ w.toNat < 256 := fun hlt => by simp [(reservedBitsClear_iff w).mpr hlt] at hr
    omega
  · next hr =>
    have hw := opField_toNat ((reservedBitsClear_iff w).mp (by simpa using hr))
    split at h <;> simp at h
    simp only [imp_false] at *
    omega

/-- The OP of a command (R103). -/
def commandOp : Command → Nat
  | .nop => 0
  | .sessionClose => 1
  | .commit => 2
  | .load => 3
  | .setSwctx => 4

theorem decodeCmd_ok_toNat {w : Word} {c : Command} (h : decodeCmd w = .ok c) : w.toNat = commandOp c := by
  unfold decodeCmd at h
  split at h
  · cases h
  · next hr =>
    have hw := opField_toNat ((reservedBitsClear_iff w).mp (by simpa using hr))
    split at h <;> cases h <;> simp only [commandOp] <;> omega

/-- Everything the host's part of a cycle can do, each case with the access on the bus pins that does it. -/
inductive HostRun (s : State) : State → Prop
  | none (access : fetch s = .none) : HostRun s (beginCycle s)
  | refused (c : BusCause) (access : fetch s = .refused c) : HostRun s (busError c (beginCycle s))
  | read (d : Word) : HostRun s (respondRead d (beginCycle s))
  | ctrl (v : Word) (access : fetch s = .run (.wrCtrl v)) :
      HostRun s (respondWrite { beginCycle s with ctrl := v.extractLsb' 0 4 })
  | status (v : Word) (access : fetch s = .run (.wrStatus v)) :
      HostRun s (respondWrite (clearSticky (v.extractLsb' 16 4) (beginCycle s)))
  | flags (v : Word) (access : fetch s = .run (.wrFlags v)) :
      HostRun s (respondWrite (clearFlags (v.extractLsb' 0 5) (beginCycle s)))
  | irqEn (v : Word) (access : fetch s = .run (.wrIrqEn v)) :
      HostRun s (respondWrite { beginCycle s with irqEn := v.extractLsb' 0 5 })
  | dbPeriod (v : Word) (access : fetch s = .run (.wrDbPeriod v)) :
      HostRun s (respondWrite { beginCycle s with dbPeriod := v })
  | pollPeriod (v : Word) (access : fetch s = .run (.wrPollPeriod v)) :
      HostRun s (respondWrite { beginCycle s with pollPeriod := v })
  | xcvTimeout (v : Word) (access : fetch s = .run (.wrXcvTimeout v)) :
      HostRun s (respondWrite { beginCycle s with xcvTimeout := v })
  | dispPeriod (v : Word) (access : fetch s = .run (.wrDispPeriod v)) :
      HostRun s (respondWrite { beginCycle s with dispPeriod := v })
  | ledger (i : Instr) (k : Fin 15) (v : Word) (access : fetch s = .run i) (word : writesLedger i = true)
      (idle : s.fccState = .idle) : HostRun s (respondWrite { beginCycle s with ledger := s.ledger.set k v })
  | ledgerBusy (busy : s.fccState ≠ .idle) : HostRun s (busError .fccBusyWrite (beginCycle s))
  | malformed (v : Word) (c : CmdCause) (access : fetch s = .run (.wrCmd v)) (bad : decodeCmd v = .error c) :
      HostRun s (respondWrite (raise (.cmd c) (beginCycle s)))
  | noEffect : HostRun s (respondWrite (beginCycle s))
  | close (v : Word) (access : fetch s = .run (.wrCmd v)) (cmd : decodeCmd v = .ok .sessionClose) (en : tagEn s = true)
      (present : s.tagState = .present) : HostRun s { respondWrite (beginCycle s) with tagState := .polling }
  | commit (v : Word) (access : fetch s = .run (.wrCmd v)) (cmd : decodeCmd v = .ok .commit) (idle : s.fccState = .idle) :
      HostRun s (startErase (respondWrite (beginCycle s)))
  | load (v : Word) (access : fetch s = .run (.wrCmd v)) (cmd : decodeCmd v = .ok .load) (idle : s.fccState = .idle) :
      HostRun s (startLoad (respondWrite (beginCycle s)))
  | cmdBusy (v : Word) (access : fetch s = .run (.wrCmd v)) (cmd : decodeCmd v = .ok .commit ∨ decodeCmd v = .ok .load)
      (busy : s.fccState ≠ .idle) : HostRun s (raise (.cmd .fccBusy) (respondWrite (beginCycle s)))
  | swctx (v : Word) (access : fetch s = .run (.wrCmd v)) (cmd : decodeCmd v = .ok .setSwctx) :
      HostRun s (setFlag .swctx (respondWrite (beginCycle s)))

theorem fccBusy_iff (s : State) : fccBusy s = true ↔ s.fccState ≠ .idle := by simp [fccBusy]

theorem writeLedger_run {s : State} {i : Instr} (k : Fin 15) (v : Word) (access : fetch s = .run i)
    (word : writesLedger i = true) : HostRun s (writeLedger k v (beginCycle s)) := by
  unfold writeLedger
  split
  · next h => exact .ledgerBusy ((fccBusy_iff _).mp h)
  · next h => exact .ledger i k v access word (by simpa [fccBusy] using h)

theorem execWrCmd_run {s b : State} {v : Word} (access : fetch s = .run (.wrCmd v))
    (h : execWrCmd v (beginCycle s) = .next b) : HostRun s b := by
  unfold execWrCmd at h
  split at h
  case h_1 c hc => cases h; exact .malformed v c access hc
  case h_2 => cases h; exact .noEffect
  case h_3 hc =>
    cases h
    split
    · next hp =>
      obtain ⟨en, present⟩ := Bool.and_eq_true_iff.mp hp
      exact .close v access hc en (by simpa using present)
    · exact .noEffect
  case h_4 hc =>
    cases h
    split
    · next hb => exact .cmdBusy v access (.inl hc) ((fccBusy_iff _).mp hb)
    · next hb => exact .commit v access hc (by simpa [fccBusy] using hb)
  case h_5 hc =>
    cases h
    split
    · next hb => exact .cmdBusy v access (.inr hc) ((fccBusy_iff _).mp hb)
    · next hb => exact .load v access hc (by simpa [fccBusy] using hb)
  case h_6 hc => cases h; exact .swctx v access hc

/-- The host's part of a cycle is one of `HostRun`'s cases. -/
theorem hostPhase_run {s b : State} (h : hostPhase s = .next b) : HostRun s b := by
  unfold hostPhase at h
  cases hf : fetch s with
  | none => simp only [hf] at h; cases h; exact .none hf
  | refused c => simp only [hf] at h; cases h; exact .refused c hf
  | run i =>
    simp only [hf] at h
    obtain ⟨d, v, he⟩ := decodeBus_ok_format (fetch_eq_run_iff.mp hf).2
    cases i
    case wrCtrl w => cases h; exact .ctrl w hf
    case wrStatus w => cases h; exact .status w hf
    case wrFlags w => cases h; exact .flags w hf
    case wrIrqEn w => cases h; exact .irqEn w hf
    case wrCmd w => exact execWrCmd_run hf h
    case wrDbPeriod w => cases h; exact .dbPeriod w hf
    case wrPollPeriod w => cases h; exact .pollPeriod w hf
    case wrXcvTimeout w => cases h; exact .xcvTimeout w hf
    case wrDispPeriod w => cases h; exact .dispPeriod w hf
    all_goals first
      | cases he; done
      | (cases h; exact .read _)
      | (cases h; exact writeLedger_run _ _ hf rfl)

/-! A register of the host is written by its own write alone (R243, R244). -/

theorem HostRun.ctrl_kept {s b : State} (run : HostRun s b) (no : ∀ w, fetch s ≠ .run (.wrCtrl w)) :
    b.ctrl = s.ctrl := by
  cases run
  case ctrl w access => exact absurd access (no w)
  all_goals rfl

theorem HostRun.irqEn_kept {s b : State} (run : HostRun s b) (no : ∀ w, fetch s ≠ .run (.wrIrqEn w)) :
    b.irqEn = s.irqEn := by
  cases run
  case irqEn w access => exact absurd access (no w)
  all_goals rfl

theorem HostRun.dbPeriod_kept {s b : State} (run : HostRun s b) (no : ∀ w, fetch s ≠ .run (.wrDbPeriod w)) :
    b.dbPeriod = s.dbPeriod := by
  cases run
  case dbPeriod w access => exact absurd access (no w)
  all_goals rfl

theorem HostRun.pollPeriod_kept {s b : State} (run : HostRun s b) (no : ∀ w, fetch s ≠ .run (.wrPollPeriod w)) :
    b.pollPeriod = s.pollPeriod := by
  cases run
  case pollPeriod w access => exact absurd access (no w)
  all_goals rfl

theorem HostRun.xcvTimeout_kept {s b : State} (run : HostRun s b) (no : ∀ w, fetch s ≠ .run (.wrXcvTimeout w)) :
    b.xcvTimeout = s.xcvTimeout := by
  cases run
  case xcvTimeout w access => exact absurd access (no w)
  all_goals rfl

theorem HostRun.dispPeriod_kept {s b : State} (run : HostRun s b) (no : ∀ w, fetch s ≠ .run (.wrDispPeriod w)) :
    b.dispPeriod = s.dispPeriod := by
  cases run
  case dispPeriod w access => exact absurd access (no w)
  all_goals rfl

end Sys2Proof.Machine
end

section
/-! SUPPORT. Everything KpdStep, TagStep and FccStep can do in a cycle, said once per sub-unit. -/

namespace Sys2Proof.Machine

/-! ## KPD -/

/-- A column edge comes while a key is pending: KEY_OVR is raised (R136). -/
def keyOverruns (S : State) : Bool := kpEn S && S.kpState == .colsArmed && colEdge S && flagSet S .keyReady

/-- Everything KpdStep can do (R130 to R140). -/
inductive KpdEffect (S a : State) : State → Prop
  | disable (off : kpEn S = false) : KpdEffect S a (kpdDisable a)
  | arm (st : S.kpState = .disabled) : KpdEffect S a { a with kpState := .colsArmed }
  | ignore (st : S.kpState = .colsArmed) : KpdEffect S a a
  | overrun (ov : keyOverruns S = true) : KpdEffect S a (raise .keyOverrun a)
  | capture (code : BitVec 4) (cap : keyCaptured S = true)
      (dec : keyDecode S.params (input S).kpRow (input S).kpCol = some code) : KpdEffect S a (captureKey code S a)
  | reload (st : S.kpState = .rowsArmed) : KpdEffect S a { a with dbCount := load S.dbPeriod }
  | count (st : S.kpState = .rowsArmed) (more : S.dbCount ≠ 1) : KpdEffect S a { a with dbCount := S.dbCount - 1 }
  | hold (st : S.kpState = .rowsArmed) : KpdEffect S a a
  | finalize (fin : keyFinalizes S = true) : KpdEffect S a (kpdFinalize a)

theorem kpdScan_effect (a : State) {S : State} (en : kpEn S = true) (st : S.kpState = .colsArmed) :
    KpdEffect S a (kpdScan S a) := by
  unfold kpdScan
  split
  case isTrue edge =>
    split
    case isTrue key => exact .overrun (by simp [keyOverruns, en, st, edge, key])
    case isFalse key =>
      split
      case h_1 code dec => exact .capture code (by simp [keyCaptured, en, st, edge, key, dec]) dec
      case h_2 => exact .ignore st
  case isFalse => exact .ignore st

theorem kpdDebounce_effect (a : State) {S : State} (en : kpEn S = true) (st : S.kpState = .rowsArmed) :
    KpdEffect S a (kpdDebounce S a) := by
  unfold kpdDebounce
  split
  case isTrue => exact .reload st
  case isFalse same =>
    split
    case isTrue expired =>
      split
      case isTrue => exact .reload st
      case isFalse clear => exact .finalize (by simp_all [keyFinalizes])
    case isFalse running =>
      split
      case isTrue ticked => exact .count st (by simpa [ticked] using running)
      case isFalse => exact .hold st

/-- What KpdStep does is one of `KpdEffect`'s cases. -/
theorem kpdStep_effect (S a : State) : KpdEffect S a (kpdStep S a) := by
  unfold kpdStep
  split
  case isTrue off => exact .disable (by simpa using off)
  case isFalse on =>
    have en : kpEn S = true := by simpa using on
    split
    case h_1 st => exact .arm st
    case h_2 st => exact kpdScan_effect a en st
    case h_3 st => exact kpdDebounce_effect a en st

/-! ## TAG -/

/-- An accepted response or a deadline ends an outstanding request, past its request cycle (R107, R182). -/
theorem rdLive_of_outcome {S : State} {st : RdStatus} (h : rdOutcome S = some st) : rdLive S = true := by
  unfold rdOutcome at h
  split at h
  case isTrue hr => simp_all [rdResponse]
  case isFalse =>
    split at h
    case isTrue hd => simp_all [rdDeadline]
    case isFalse => cases h

theorem rdOutcome_eq_none_iff (S : State) : rdOutcome S = none ↔ rdResponse S = false ∧ rdDeadline S = false := by
  unfold rdOutcome
  cases rdResponse S <;> cases rdDeadline S <;> simp

theorem rdOutcome_of_not_pend {S : State} (h : S.rdPend = false) : rdOutcome S = none := by
  simp [rdOutcome_eq_none_iff, rdDeadline, rdResponse, rdLive, h]

/-- With an outcome the request is over (R170). -/
theorem tagTransceive_of_outcome {S : State} {st : RdStatus} (a : State) (h : rdOutcome S = some st) :
    tagTransceive S a = { a with rdPend := false, xcvCount := 0, rdAbortQ := rdDeadline S } := by
  have hn : ¬ (rdResponse S = false ∧ rdDeadline S = false) := by simp [← rdOutcome_eq_none_iff, h]
  unfold tagTransceive
  rw [if_pos (by cases hr : rdResponse S <;> simp_all)]

/-- Without an outcome the request waits, its deadline counting down (R170, R182). -/
theorem tagTransceive_of_none {S : State} (a : State) (h : rdOutcome S = none) :
    tagTransceive S a = if rdLive S && tick S then { a with xcvCount := S.xcvCount - 1 } else a := by
  obtain ⟨hr, hd⟩ := (rdOutcome_eq_none_iff S).mp h
  simp [tagTransceive, hr, hd]

/-- An AUTH or a READ fails in this cycle: TAG_ERR is raised (R179, R181). -/
def tagFails (S : State) : Prop :=
  tagEn S = true ∧ ∃ st, rdOutcome S = some st ∧
    (S.tagState = .authenticating ∧ ¬ (st = .ok ∧ uidlenOk S = true) ∨ S.tagState = .reading ∧ st ≠ .ok)

/-- The state that TagStep's cases by `tag_state` write over: the poll counter and the transceive done. -/
def tagCounted (S a : State) : State := tagTransceive S (tagPoll S a)

/-- Everything TagStep can do (R170 to R185). -/
inductive TagEffect (S a : State) : State → Prop
  | disable (off : tagEn S = false) : TagEffect S a (tagDisable S a)
  | wake (st : S.tagState = .idle) : TagEffect S a { tagCounted S a with tagState := .polling }
  | poll (starts : pollStarts S = true) : TagEffect S a (startPoll S (tagCounted S a))
  | wait (st : S.tagState ≠ .idle) (quiet : S.tagState = .present ∨ rdOutcome S = none) : TagEffect S a (tagCounted S a)
  | noTag (out : RdStatus) (st : S.tagState = .polling) (ended : rdOutcome S = some out) : TagEffect S a (tagCounted S a)
  | auth (out : RdStatus) (starts : authStarts S = true) (ended : rdOutcome S = some out) :
      TagEffect S a (startAuth S (tagCounted S a))
  | read (starts : readStarts S = true) : TagEffect S a (startRead S (tagCounted S a))
  | fail (c : TagCause) (fails : tagFails S) : TagEffect S a (tagFail c (tagCounted S a))
  | publish (pub : tagPublishes S = true) : TagEffect S a (tagPublish S (tagCounted S a))

theorem tagFsm_polling_effect (a : State) {S : State} (en : tagEn S = true) (st : S.tagState = .polling) :
    TagEffect S a (tagFsm S (tagCounted S a)) := by
  simp only [tagFsm, st]
  split
  case isTrue due => exact .poll (by simp_all [pollStarts])
  case isFalse =>
    split
    case h_1 ok => exact .auth _ (by simp [authStarts, en, st, ok]) ok
    case h_2 coll => exact .auth _ (by simp [authStarts, en, st, coll]) coll
    case h_3 =>
      cases ho : rdOutcome S with
      | none => exact .wait (by simp [st]) (.inr ho)
      | some out => exact .noTag out st ho

theorem tagFsm_authenticating_effect (a : State) {S : State} (en : tagEn S = true) (st : S.tagState = .authenticating) :
    TagEffect S a (tagFsm S (tagCounted S a)) := by
  have failed {out : RdStatus} (ho : rdOutcome S = some out) (hn : ¬ (out = .ok ∧ uidlenOk S = true)) : tagFails S :=
    ⟨en, out, ho, .inl ⟨st, hn⟩⟩
  simp only [tagFsm, st]
  split
  case h_1 ho => exact .wait (by simp [st]) (.inr ho)
  case h_2 ho =>
    split
    case isTrue legal => exact .read (by simp [readStarts, en, st, ho, legal])
    case isFalse illegal => exact .fail _ (failed ho (by simp [illegal]))
  case h_3 ho => exact .fail _ (failed ho (by simp))
  case h_4 hok _ ho => exact .fail _ (failed ho fun h => hok h.1)

theorem tagFsm_reading_effect (a : State) {S : State} (en : tagEn S = true) (st : S.tagState = .reading) :
    TagEffect S a (tagFsm S (tagCounted S a)) := by
  have failed {out : RdStatus} (ho : rdOutcome S = some out) (hn : out ≠ .ok) : tagFails S :=
    ⟨en, out, ho, .inr ⟨st, hn⟩⟩
  simp only [tagFsm, st]
  split
  case h_1 ho => exact .wait (by simp [st]) (.inr ho)
  case h_2 ho => exact .publish (by simp [tagPublishes, en, st, ho])
  case h_3 ho => exact .fail _ (failed ho (by simp))
  case h_4 hok _ ho => exact .fail _ (failed ho hok)

/-- What TagStep does is one of `TagEffect`'s cases. -/
theorem tagStep_effect (S a : State) : TagEffect S a (tagStep S a) := by
  unfold tagStep
  split
  case isTrue off => exact .disable (by simpa using off)
  case isFalse on =>
    have en : tagEn S = true := by simpa using on
    cases st : S.tagState
    case idle => simp only [tagFsm, st]; exact .wake st
    case polling => exact tagFsm_polling_effect a en st
    case authenticating => exact tagFsm_authenticating_effect a en st
    case reading => exact tagFsm_reading_effect a en st
    case present => simp only [tagFsm, st]; exact .wait (by simp [st]) (.inl st)

/-! ## FCC -/

/-- Everything FccStep can do (R210 to R218). -/
inductive FccEffect (S a : State) : State → Prop
  | wait (quiet : S.fccState = .idle ∨ flAcked S = false) : FccEffect S a a
  | erased (st : S.fccState = .erasing) (ack : flAcked S = true) : FccEffect S a (startProgram (sectorErased a))
  | programmed (st : S.fccState = .programming) (ack : flAcked S = true) : FccEffect S a (fccFinish (pageProgrammed a))
  | loaded (st : S.fccState = .loading) (ack : flAcked S = true) :
      FccEffect S a (fccFinish { a with ledger := unpackLedger (input S).flRdata })

/-- What FccStep does is one of `FccEffect`'s cases. -/
theorem fccStep_effect (S a : State) : FccEffect S a (fccStep S a) := by
  unfold fccStep
  split
  case h_1 st => exact .wait (.inl st)
  case h_2 st =>
    split
    case isTrue ack => exact .erased st ack
    case isFalse no => exact .wait (.inr (by simpa using no))
  case h_3 st =>
    split
    case isTrue ack => exact .programmed st ack
    case isFalse no => exact .wait (.inr (by simpa using no))
  case h_4 st =>
    split
    case isTrue ack => exact .loaded st ack
    case isFalse no => exact .wait (.inr (by simpa using no))

end Sys2Proof.Machine
end

section
/-! SUPPORT. The fields after a cycle without reset: each is what its one writer leaves in it (R51). -/

namespace Sys2Proof.Machine

/-! Written by the host's part alone. -/

@[simp] theorem finishCycle_ctrl (S a : State) : (finishCycle S a).ctrl = a.ctrl := by simp [finishCycle, subUnits]
@[simp] theorem finishCycle_irqEn (S a : State) : (finishCycle S a).irqEn = a.irqEn := by simp [finishCycle, subUnits]
@[simp] theorem finishCycle_dbPeriod (S a : State) : (finishCycle S a).dbPeriod = a.dbPeriod := by
  simp [finishCycle, subUnits]
@[simp] theorem finishCycle_pollPeriod (S a : State) : (finishCycle S a).pollPeriod = a.pollPeriod := by
  simp [finishCycle, subUnits]
@[simp] theorem finishCycle_xcvTimeout (S a : State) : (finishCycle S a).xcvTimeout = a.xcvTimeout := by
  simp [finishCycle, subUnits]
@[simp] theorem finishCycle_dispPeriod (S a : State) : (finishCycle S a).dispPeriod = a.dispPeriod := by
  simp [finishCycle, subUnits]
@[simp] theorem finishCycle_cmdCause (S a : State) : (finishCycle S a).cmdCause = a.cmdCause := by
  simp [finishCycle, subUnits]
@[simp] theorem finishCycle_busCause (S a : State) : (finishCycle S a).busCause = a.busCause := by
  simp [finishCycle, subUnits]

/-! Written by no part, or by the end of the cycle. -/

@[simp] theorem finishCycle_params (S a : State) : (finishCycle S a).params = a.params := by simp [finishCycle, subUnits]
@[simp] theorem finishCycle_presc (S a : State) : (finishCycle S a).presc = prescNext S := rfl
@[simp] theorem finishCycle_inputs (S a : State) : (finishCycle S a).inputs = S.inputs.tail := rfl
@[simp] theorem finishCycle_colPrev (S a : State) : (finishCycle S a).colPrev = (input S).kpCol := rfl
@[simp] theorem finishCycle_rowPrev (S a : State) : (finishCycle S a).rowPrev = (input S).kpRow := rfl
@[simp] theorem finishCycle_pinPrev (S a : State) : (finishCycle S a).pinPrev = (input S).tagPin := rfl

/-! Written by KPD. -/

@[simp] theorem finishCycle_kpState (S a : State) : (finishCycle S a).kpState = (kpdStep S a).kpState := by
  simp [finishCycle, subUnits]
@[simp] theorem finishCycle_dbCount (S a : State) : (finishCycle S a).dbCount = (kpdStep S a).dbCount := by
  simp [finishCycle, subUnits]
@[simp] theorem finishCycle_keyCode (S a : State) : (finishCycle S a).keyCode = (kpdStep S a).keyCode := by
  simp [finishCycle, subUnits]
@[simp] theorem finishCycle_keyRow (S a : State) : (finishCycle S a).keyRow = (kpdStep S a).keyRow := by
  simp [finishCycle, subUnits]
@[simp] theorem finishCycle_keyCol (S a : State) : (finishCycle S a).keyCol = (kpdStep S a).keyCol := by
  simp [finishCycle, subUnits]

/-! Written by TAG. -/

@[simp] theorem finishCycle_tagState (S a : State) : (finishCycle S a).tagState = (tagStep S a).tagState := by
  simpa [finishCycle, subUnits] using tagStep_tagState_congr S (kpdStep_tagState S a)
@[simp] theorem finishCycle_rdPend (S a : State) : (finishCycle S a).rdPend = (tagStep S a).rdPend := by
  simpa [finishCycle, subUnits] using tagStep_rdPend_congr S (kpdStep_rdPend S a)
@[simp] theorem finishCycle_rdIssue (S a : State) : (finishCycle S a).rdIssue = (tagStep S a).rdIssue := by
  simpa [finishCycle, subUnits] using tagStep_rdIssue_congr S (kpdStep_rdIssue S a)
@[simp] theorem finishCycle_rdOp (S a : State) : (finishCycle S a).rdOp = (tagStep S a).rdOp := by
  simpa [finishCycle, subUnits] using tagStep_rdOp_congr S (kpdStep_rdOp S a)
@[simp] theorem finishCycle_rdAbortQ (S a : State) : (finishCycle S a).rdAbortQ = (tagStep S a).rdAbortQ := by
  simpa [finishCycle, subUnits] using tagStep_rdAbortQ_congr S (kpdStep_rdAbortQ S a)
@[simp] theorem finishCycle_xcvCount (S a : State) : (finishCycle S a).xcvCount = (tagStep S a).xcvCount := by
  simpa [finishCycle, subUnits] using tagStep_xcvCount_congr S (kpdStep_xcvCount S a)
@[simp] theorem finishCycle_uidSh (S a : State) : (finishCycle S a).uidSh = (tagStep S a).uidSh := by
  simpa [finishCycle, subUnits] using tagStep_uidSh_congr S (kpdStep_uidSh S a)
@[simp] theorem finishCycle_uidlenSh (S a : State) : (finishCycle S a).uidlenSh = (tagStep S a).uidlenSh := by
  simpa [finishCycle, subUnits] using tagStep_uidlenSh_congr S (kpdStep_uidlenSh S a)
@[simp] theorem finishCycle_tagCause (S a : State) : (finishCycle S a).tagCause = (tagStep S a).tagCause := by
  simpa [finishCycle, subUnits] using tagStep_tagCause_congr S (kpdStep_tagCause S a)
@[simp] theorem finishCycle_tagUidlen (S a : State) : (finishCycle S a).tagUidlen = (tagStep S a).tagUidlen := by
  simpa [finishCycle, subUnits] using tagStep_tagUidlen_congr S (kpdStep_tagUidlen S a)
@[simp] theorem finishCycle_tagUid (S a : State) : tagUid (finishCycle S a) = tagUid (tagStep S a) := by
  simp [tagUid, finishCycle, subUnits, tagStep_tagUid0_congr S (kpdStep_tagUid0 S a),
    tagStep_tagUid1_congr S (kpdStep_tagUid1 S a), tagStep_tagUid2_congr S (kpdStep_tagUid2 S a)]
@[simp] theorem finishCycle_sessionRegs (S a : State) : sessionRegs (finishCycle S a) = sessionRegs (tagStep S a) := by
  simp [sessionRegs, finishCycle, subUnits, tagStep_tagUidlen_congr S (kpdStep_tagUidlen S a),
    tagStep_tagUid0_congr S (kpdStep_tagUid0 S a), tagStep_tagUid1_congr S (kpdStep_tagUid1 S a),
    tagStep_tagUid2_congr S (kpdStep_tagUid2 S a), tagStep_tagData0_congr S (kpdStep_tagData0 S a),
    tagStep_tagData1_congr S (kpdStep_tagData1 S a), tagStep_tagData2_congr S (kpdStep_tagData2 S a),
    tagStep_tagData3_congr S (kpdStep_tagData3 S a)]

/-! Written by FCC, over the host's part. -/

@[simp] theorem finishCycle_fccState (S a : State) : (finishCycle S a).fccState = (fccStep S a).fccState := by
  simpa [finishCycle, subUnits] using fccStep_fccState_congr S (a := tagStep S (kpdStep S a)) (b := a) (by simp)
@[simp] theorem finishCycle_flPend (S a : State) : (finishCycle S a).flPend = (fccStep S a).flPend := by
  simpa [finishCycle, subUnits] using fccStep_flPend_congr S (a := tagStep S (kpdStep S a)) (b := a) (by simp)
@[simp] theorem finishCycle_flIssue (S a : State) : (finishCycle S a).flIssue = (fccStep S a).flIssue := by
  simpa [finishCycle, subUnits] using fccStep_flIssue_congr S (a := tagStep S (kpdStep S a)) (b := a) (by simp)
@[simp] theorem finishCycle_flOp (S a : State) : (finishCycle S a).flOp = (fccStep S a).flOp := by
  simpa [finishCycle, subUnits] using fccStep_flOp_congr S (a := tagStep S (kpdStep S a)) (b := a) (by simp)
@[simp] theorem finishCycle_ledger (S a : State) : (finishCycle S a).ledger = (fccStep S a).ledger := by
  simpa [finishCycle, subUnits] using fccStep_ledger_congr S (a := tagStep S (kpdStep S a)) (b := a) (by simp)
@[simp] theorem finishCycle_flash (S a : State) : (finishCycle S a).flash = (fccStep S a).flash := by
  have hd : (finishCycle S a).flash = (fccStep S (tagStep S (kpdStep S a))).flash := by simp [finishCycle, subUnits]
  rw [hd]
  unfold fccStep
  repeat' split
  all_goals simp

/-! Written by several parts: the sticky bits by the host's part, KPD and TAG, the flags by every part. -/

@[simp] theorem finishCycle_sticky (S a : State) :
    (finishCycle S a).sticky = (tagStep S (kpdStep S a)).sticky := by
  simp [finishCycle, subUnits]

/-- KpdStep raises KEY_OVR on a column edge while a key is pending, and no other error (R136). -/
theorem KpdEffect.sticky {S a c : State} (k : KpdEffect S a c) :
    c.sticky = a.sticky ∨ keyOverruns S = true ∧ c.sticky = a.sticky ||| stickyMask .keyOverrun := by
  cases k
  case overrun ov => exact .inr ⟨ov, rfl⟩
  all_goals exact .inl rfl

@[simp] theorem tagCounted_sticky (S a : State) : (tagCounted S a).sticky = a.sticky := by simp [tagCounted]
@[simp] theorem tagCounted_tagCause (S a : State) : (tagCounted S a).tagCause = a.tagCause := by simp [tagCounted]
@[simp] theorem tagCounted_tagState (S a : State) : (tagCounted S a).tagState = a.tagState := by simp [tagCounted]
@[simp] theorem tagCounted_rdIssue (S a : State) : (tagCounted S a).rdIssue = a.rdIssue := by simp [tagCounted]
@[simp] theorem tagCounted_rdOp (S a : State) : (tagCounted S a).rdOp = a.rdOp := by simp [tagCounted]
@[simp] theorem tagCounted_uidSh (S a : State) : (tagCounted S a).uidSh = a.uidSh := by simp [tagCounted]
@[simp] theorem tagCounted_uidlenSh (S a : State) : (tagCounted S a).uidlenSh = a.uidlenSh := by simp [tagCounted]
@[simp] theorem tagCounted_tagUidlen (S a : State) : (tagCounted S a).tagUidlen = a.tagUidlen := by simp [tagCounted]
@[simp] theorem tagCounted_tagUid (S a : State) : tagUid (tagCounted S a) = tagUid a := by simp [tagCounted, tagUid]
@[simp] theorem tagCounted_sessionRegs (S a : State) : sessionRegs (tagCounted S a) = sessionRegs a := by
  simp [tagCounted, sessionRegs]

/-- TagStep raises TAG_ERR with its cause when an AUTH or a READ fails, and no other error (R179, R181). -/
theorem TagEffect.errors {S a t : State} (k : TagEffect S a t) :
    (t.sticky = a.sticky ∧ t.tagCause = a.tagCause) ∨
    tagFails S ∧ ∃ c, t.sticky = a.sticky ||| stickyMask (.tag c) ∧ t.tagCause = tagCauseCode c := by
  cases k
  case fail c fails => exact .inr ⟨fails, c, by simp [stickyMask]⟩
  all_goals exact .inl (by simp)

/-- A flag after a cycle (R51): set if its event happens, else cleared by a host write of 1, else kept. -/
theorem step_flagSet {s t : State} (hr : (input s).rst = false) (h : step s = .next t) (f : Flag) :
    flagSet t f = (flagEvent s f || (flagSet s f && !hostClearsFlag s f)) := by
  obtain ⟨b, hb, -, rfl⟩ := step_cases hr h
  have hend : ∀ x : State, flagSet (endCycle s x) f = flagSet x f := fun _ => rfl
  simp only [finishCycle, subUnits, hend, dispStep_flagSet, fccStep_flagSet, tagStep_flagSet, kpdStep_flagSet,
    hostPhase_flagSet hb]
  cases f <;> simp [flagEvent, Bool.or_comm]

end Sys2Proof.Machine
end

section
/-! PROOFS. The obligations on the cycle, on the register writes, and on what may write each part of the state. -/

namespace Sys2Proof.Machine

/-! ## The cycle -/

@[simp] theorem resetCycle_params (s : State) : (resetCycle s).params = s.params := rfl
@[simp] theorem resetCycle_inputs (s : State) : (resetCycle s).inputs = s.inputs.tail := rfl

theorem step_of_reset {s : State} (hr : (input s).rst = true) : step s = .next (resetCycle s) := by simp [step, hr]

/-- Settles O4: a cycle is a reset, or a host part that always answers and the sub-units over it. -/
theorem everyCycleHasANextState : Obligations.EveryCycleHasANextState := by
  intro s
  cases hr : (input s).rst with
  | true => exact ⟨_, step_of_reset hr, by simp⟩
  | false =>
    obtain ⟨b, hb, he⟩ := hostPhase_effect s
    exact ⟨_, step_of_hostPhase hr hb, by simp [HostEffect_params he]⟩

/-- Settles O5: the pins fetch the instruction, and the rest of the cycle is `finishCycle` by definition. -/
theorem stepRunsTheHostAccess : Obligations.StepRunsTheHostAccess := by
  intro s i hr hv hd
  have hf : fetch s = .run i := fetch_eq_run_iff.mpr ⟨hv, hd⟩
  obtain ⟨b, hb, he⟩ := hostPhase_effect s
  have hx : exec i (beginCycle s) = .next b := by simpa [hostPhase, hf] using hb
  exact ⟨b, finishCycle s b, hx, step_of_hostPhase hr hb, rfl, by simp [HostEffect_params he]⟩

/-! ## Register writes -/

/-- Settles O14: each write is an update of its one register. -/
theorem registerWritesReplaceTheFields : Obligations.RegisterWritesReplaceTheFields := by
  intro s v
  refine ⟨⟨v.extractLsb' 0 4, rfl, fun i hi => by simp [hi]⟩, fun t ht => ?_,
    ⟨v.extractLsb' 0 5, rfl, fun i hi => by simp [hi]⟩, rfl, rfl, rfl, rfl⟩
  obtain rfl : respondWrite { s with ctrl := v.extractLsb' 0 4 } = t := Host.Outcome.next.inj ht
  simp [kpEn, tagEn, tagMode, dispEn]

/-- Settles O15: each write masks its register with the complement of the data bits. -/
theorem w1cWritesClearTheBitsWritten : Obligations.W1cWritesClearTheBitsWritten := by
  intro s v
  refine ⟨⟨s.flags &&& ~~~ v.extractLsb' 0 5, rfl, fun b hb => ?_⟩,
    ⟨s.sticky &&& ~~~ v.extractLsb' 16 4, rfl, fun b hlo hhi => ?_⟩⟩
  · simp [hb]
  · have hb : b - 16 < 4 := by omega
    simp [hb, show 16 + (b - 16) = b by omega]

/-- A cycle whose access is run: the sub-units over what the access leaves. -/
theorem step_of_fetch {s b : State} {i : Instr} (hr : (input s).rst = false) (hf : fetch s = .run i)
    (he : exec i (beginCycle s) = .next b) : step s = .next (finishCycle s b) :=
  step_of_hostPhase hr (by simpa [hostPhase, hf] using he)

/-- Settles O9: the six registers are written by their own write alone, and no sub-unit reads the state the host's part
leaves. -/
theorem controlWriteActsFromTheNextCycle : Obligations.ControlWriteActsFromTheNextCycle := by
  intro s t u v hr ht hu
  obtain rfl := step_withoutAccess hr ht
  obtain ⟨b, hb, -, rfl⟩ := step_cases hr hu
  have run := hostPhase_run hb
  refine ⟨fun no => (finishCycle_ctrl s b).trans (run.ctrl_kept no),
    fun no => (finishCycle_irqEn s b).trans (run.irqEn_kept no),
    fun no => (finishCycle_dbPeriod s b).trans (run.dbPeriod_kept no),
    fun no => (finishCycle_pollPeriod s b).trans (run.pollPeriod_kept no),
    fun no => (finishCycle_xcvTimeout s b).trans (run.xcvTimeout_kept no),
    fun no => (finishCycle_dispPeriod s b).trans (run.dispPeriod_kept no),
    fun hf => (step_of_fetch hr hf rfl).trans (congrArg _ (finishCycle_with_ctrl _ s (beginCycle s))),
    fun hf => (step_of_fetch hr hf rfl).trans (congrArg _ (finishCycle_with_irqEn _ s (beginCycle s))),
    fun hf => (step_of_fetch hr hf rfl).trans (congrArg _ (finishCycle_with_dbPeriod _ s (beginCycle s))),
    fun hf => (step_of_fetch hr hf rfl).trans (congrArg _ (finishCycle_with_pollPeriod _ s (beginCycle s))),
    fun hf => (step_of_fetch hr hf rfl).trans (congrArg _ (finishCycle_with_xcvTimeout _ s (beginCycle s))),
    fun hf => (step_of_fetch hr hf rfl).trans (congrArg _ (finishCycle_with_dispPeriod _ s (beginCycle s)))⟩

/-! ## KEY and the session registers -/

/-- KEY after KpdStep: changed by a valid capture only (R34). -/
theorem KpdEffect.keyRegs_kept {S a c : State} (k : KpdEffect S a c) (no : keyCaptured S = false) :
    keyRegs c = keyRegs a := by
  cases k
  case capture cap _ => simp [no] at cap
  all_goals rfl

@[simp] theorem finishCycle_keyRegs (S a : State) : keyRegs (finishCycle S a) = keyRegs (kpdStep S a) := by
  simp [keyRegs]

/-- Settles O34: no host access writes KEY, and KpdStep writes it by a capture, which a pending key excludes. -/
theorem keyIsWrittenOnlyByAValidCapture : Obligations.KeyIsWrittenOnlyByAValidCapture := by
  intro s t hr h
  obtain ⟨b, -, he, rfl⟩ := step_cases hr h
  have kept (no : keyCaptured s = false) : keyRegs (finishCycle s b) = keyRegs s := by
    rw [finishCycle_keyRegs, (kpdStep_effect s b).keyRegs_kept no]
    simp [keyRegs, HostEffect_keyCode he, HostEffect_keyRow he, HostEffect_keyCol he]
  exact ⟨kept, fun pending => kept (by simp [keyCaptured, pending])⟩

theorem HostEffect_sessionRegs {b h : State} (e : HostEffect b h) : sessionRegs h = sessionRegs b := by
  cases e <;> rfl

/-- SESSION_CLOSE is the host's only write of `tag_state` (R250). -/
theorem HostEffect_tagState {b h : State} (e : HostEffect b h) :
    h.tagState = b.tagState ∨ b.tagState = .present ∧ h.tagState = .polling := by
  cases e
  case close present => exact .inr ⟨present, rfl⟩
  all_goals exact .inl rfl

/-- The session registers after TagStep: changed by a publication only (R36, R180). -/
theorem TagEffect.sessionRegs_kept {S a t : State} (k : TagEffect S a t) (no : tagPublishes S = false) :
    sessionRegs t = sessionRegs a := by
  cases k
  case publish pub => simp [no] at pub
  case disable => rfl
  all_goals exact tagCounted_sessionRegs S a

/-- PRESENT after TagStep: it was left standing, or a session is published (R180, R187). -/
theorem TagEffect.present {S a t : State} (k : TagEffect S a t) (h : t.tagState = .present) :
    a.tagState = .present ∨ tagPublishes S = true := by
  cases k
  case wait => exact .inl (by simpa using h)
  case noTag => exact .inl (by simpa using h)
  case poll => exact .inl (by simpa using h)
  case publish pub => exact .inr pub
  all_goals cases h

/-- The held UID after TagStep: changed only by an AUTH that starts a READ (R178). -/
theorem TagEffect.heldUid {S a t : State} (k : TagEffect S a t) (no : readStarts S = false) :
    t.uidSh = a.uidSh ∧ t.uidlenSh = a.uidlenSh := by
  cases k
  case read starts => simp [no] at starts
  all_goals simp

theorem tagStep_of_publishes {S : State} (a : State) (h : tagPublishes S = true) :
    tagStep S a = tagPublish S (tagCounted S a) := by
  simp only [tagPublishes, Bool.and_eq_true, beq_iff_eq] at h
  obtain ⟨⟨en, st⟩, ok⟩ := h
  simp [tagStep, tagFsm, tagCounted, en, st, ok]

/-- Settles O45: by the cases of TagStep, over a host part that leaves the session registers and the held UID alone. -/
theorem sessionRegistersChangeOnlyByPublishing : Obligations.SessionRegistersChangeOnlyByPublishing := by
  intro s t hr h
  obtain ⟨b, -, he, rfl⟩ := step_cases hr h
  have tag := tagStep_effect s b
  refine ⟨fun no => ?_, fun pub => ?_, fun present => ?_, fun no => ?_⟩
  · rw [finishCycle_sessionRegs, tag.sessionRegs_kept no]
    exact (HostEffect_sessionRegs he :)
  · rw [finishCycle_tagState, tagStep_of_publishes b pub]
    rfl
  · rw [finishCycle_tagState] at present
    refine (tag.present present).imp_left fun hb => ?_
    rcases HostEffect_tagState he with kept | ⟨-, closed⟩
    · exact kept.symm.trans hb
    · simp [closed] at hb
  · rw [finishCycle_uidSh, finishCycle_uidlenSh, (tag.heldUid no).1, (tag.heldUid no).2]
    exact ⟨(HostEffect_uidSh he :), (HostEffect_uidlenSh he :)⟩

/-! ## The flash array and LEDGER -/

/-- The flash array after FccStep: changed by an acknowledged erase or program only (R71, R81). -/
theorem FccEffect.flash_kept {S a t : State} (k : FccEffect S a t)
    (no : (S.fccState ≠ .erasing ∧ S.fccState ≠ .programming) ∨ flAcked S = false) : t.flash = a.flash := by
  cases k
  case erased st ack => simp [st, ack] at no
  case programmed st ack => simp [st, ack] at no
  all_goals rfl

/-- LEDGER after FccStep: changed by an acknowledged read only (R215). -/
theorem FccEffect.ledger_kept {S a t : State} (k : FccEffect S a t) (no : S.fccState ≠ .loading ∨ flAcked S = false) :
    t.ledger = a.ledger := by
  cases k
  case loaded st ack => simp [st, ack] at no
  all_goals rfl

/-- The host's part changes LEDGER only while FCC is IDLE and by a LEDGER write (R76, R247). -/
theorem HostRun.ledger_kept {s b : State} (run : HostRun s b)
    (no : s.fccState = .idle → ∀ i, fetch s = .run i → writesLedger i = false) : b.ledger = s.ledger := by
  cases run
  case ledger i k v access word idle => simp [no idle i access] at word
  all_goals rfl

/-- Settles O51: by the cases of FccStep, over a host part that writes LEDGER by a LEDGER write in IDLE only. -/
theorem flashAndLedgerHaveOneWriter : Obligations.FlashAndLedgerHaveOneWriter := by
  intro s t hr h
  obtain ⟨b, hb, he, rfl⟩ := step_cases hr h
  have fcc := fccStep_effect s b
  have host := hostPhase_run hb
  refine ⟨fun no => ?_, fun busy no => ?_, fun idle pins => ?_⟩
  · rw [finishCycle_flash, fcc.flash_kept no]
    exact (HostEffect_flash he :)
  · rw [finishCycle_ledger, fcc.ledger_kept no]
    exact host.ledger_kept fun idle => absurd idle busy
  · rw [finishCycle_ledger, fcc.ledger_kept (by simp [idle])]
    refine host.ledger_kept fun _ i access => ?_
    cases word : writesLedger i with
    | false => rfl
    | true => exact absurd (fetch_ledger_pins access word) pins

/-! ## The flags -/

/-- The host leaves a flag alone when its FLAGS write, if it makes one, has the flag's bit 0 (R245). -/
theorem hostClearsFlag_eq_false_iff (s : State) (f : Flag) :
    hostClearsFlag s f = false ↔ ∀ v, fetch s = .run (.wrFlags v) → v.getLsbD (flagIndex f) = false := by
  unfold hostClearsFlag
  split
  case h_1 w hf => simp [hf]
  case h_2 hn => simpa using fun v hf => absurd hf (hn v)

/-- Settles O53: the flag equation of a whole cycle, read at each bit. -/
theorem flagsAreSetByTheirEventsOnly : Obligations.FlagsAreSetByTheirEventsOnly := by
  intro s t hr h
  have flag (f : Flag) : t.flags.getLsbD (flagIndex f) = true ↔ flagEvent s f = true ∨
      (s.flags.getLsbD (flagIndex f) = true ∧ ∀ v, fetch s = .run (.wrFlags v) → v.getLsbD (flagIndex f) = false) := by
    rw [← hostClearsFlag_eq_false_iff]
    have hf := step_flagSet hr h f
    rw [flagSet, flagSet] at hf
    simp [hf]
  refine ⟨flag .keyReady, flag .tagReady, ?_, flag .invTick, flag .fccDone, step_flagSet hr h⟩
  simpa [flagEvent, flagIndex] using flag .swctx

end Sys2Proof.Machine
end

section
/-! PROOFS. The sticky error bits and the cause fields (R26, R35, R280): what each part of a cycle does to them. -/

namespace Sys2Proof.Machine

/-- The bit of STATUS[19:16] of an error's class (R26). -/
def stickyIndex : ErrorEvent → Nat
  | .keyOverrun => 0
  | .tag _ => 1
  | .cmd _ => 2
  | .bus _ => 3

theorem stickyMask_getLsbD (e : ErrorEvent) (i : Nat) : (stickyMask e).getLsbD i = decide (i = stickyIndex e) := by
  have hm : stickyMask e = BitVec.twoPow 4 (stickyIndex e) := by cases e <;> rfl
  have hlt : stickyIndex e < 4 := by cases e <;> simp [stickyIndex]
  rw [hm, BitVec.getLsbD_twoPow]
  simp [hlt, eq_comm]

theorem sticky_or_bit {x y : BitVec 4} {e : ErrorEvent} (h : y = x ||| stickyMask e) (i : Nat) :
    y.getLsbD i = true ↔ x.getLsbD i = true ∨ i = stickyIndex e := by
  rw [h, BitVec.getLsbD_or, stickyMask_getLsbD, Bool.or_eq_true, decide_eq_true_eq]

/-- The host's CMD write of this cycle is malformed, or a COMMIT or LOAD while FCC is busy (R217, R249). -/
def cmdFails (s : State) : Prop :=
  ∃ v : Word, fetch s = .run (.wrCmd v) ∧ (5 ≤ v.toNat ∨ (v = 2 ∨ v = 3) ∧ s.fccState ≠ .idle)

theorem cmdFails_of_busy {s : State} {v : Word} (access : fetch s = .run (.wrCmd v))
    (cmd : decodeCmd v = .ok .commit ∨ decodeCmd v = .ok .load) (busy : s.fccState ≠ .idle) : cmdFails s :=
  ⟨v, access, .inr ⟨cmd.imp (fun h => BitVec.eq_of_toNat_eq (decodeCmd_ok_toNat h))
    (fun h => BitVec.eq_of_toNat_eq (decodeCmd_ok_toNat h)), busy⟩⟩

/-- What the host's part does to the error bits and the two causes it can write. -/
inductive HostErrors (s b : State) : Prop
  | kept (sticky : b.sticky = s.sticky) (cmd : b.cmdCause = s.cmdCause) (bus : b.busCause = s.busCause)
  | cleared (v : Word) (access : fetch s = .run (.wrStatus v)) (sticky : b.sticky = s.sticky &&& ~~~ v.extractLsb' 16 4)
      (cmd : b.cmdCause = s.cmdCause) (bus : b.busCause = s.busCause)
  | cmdRaised (c : CmdCause) (fails : cmdFails s) (sticky : b.sticky = s.sticky ||| stickyMask (.cmd c))
      (cmd : b.cmdCause = cmdCauseCode c) (bus : b.busCause = s.busCause)
  | busRaised (c : BusCause) (answer : b.busErr = true) (sticky : b.sticky = s.sticky ||| stickyMask (.bus c))
      (cmd : b.cmdCause = s.cmdCause) (bus : b.busCause = busCauseCode c)

theorem HostRun.errors {s b : State} (run : HostRun s b) : HostErrors s b := by
  cases run
  case status v access => exact .cleared v access rfl rfl rfl
  case refused c access => exact .busRaised c rfl rfl rfl rfl
  case ledgerBusy => exact .busRaised _ rfl rfl rfl rfl
  case malformed v c access bad => exact .cmdRaised c ⟨v, access, .inl (decodeCmd_error_ge bad)⟩ rfl rfl rfl
  case cmdBusy v access cmd busy => exact .cmdRaised _ (cmdFails_of_busy access cmd busy) rfl rfl rfl
  all_goals exact .kept rfl rfl rfl

/-- A bit survives the host's part unless the host writes it as 1 (R246). -/
theorem HostErrors.bit_kept {s b : State} (e : HostErrors s b) {i : Nat} (hi : i < 4) (set : s.sticky.getLsbD i = true)
    (no : ∀ v, fetch s = .run (.wrStatus v) → v.getLsbD (16 + i) = false) : b.sticky.getLsbD i = true := by
  cases e
  case kept sticky _ _ => rwa [sticky]
  case cleared v access sticky _ _ => simp [sticky, set, hi, no v access]
  case cmdRaised sticky _ _ => exact (sticky_or_bit sticky i).mpr (.inl set)
  case busRaised sticky _ _ => exact (sticky_or_bit sticky i).mpr (.inl set)

/-- The host's part sets CMD_ERR by a failing command, BUS_ERR by a refused access, and no other bit. -/
theorem HostErrors.bit_cause {s b : State} (e : HostErrors s b) {i : Nat} (set : b.sticky.getLsbD i = true) :
    s.sticky.getLsbD i = true ∨ (i = 2 ∧ cmdFails s) ∨ (i = 3 ∧ b.busErr = true) := by
  cases e
  case kept sticky _ _ => exact .inl (sticky ▸ set)
  case cleared v access sticky _ _ =>
    rw [sticky, BitVec.getLsbD_and, Bool.and_eq_true] at set
    exact .inl set.1
  case cmdRaised fails sticky _ _ => exact ((sticky_or_bit sticky i).mp set).imp_right fun hi => .inl ⟨hi, fails⟩
  case busRaised answer sticky _ _ => exact ((sticky_or_bit sticky i).mp set).imp_right fun hi => .inr ⟨hi, answer⟩

theorem HostErrors.cmdCause_kept {s b : State} (e : HostErrors s b) (no : ¬ cmdFails s) : b.cmdCause = s.cmdCause := by
  cases e
  case cmdRaised fails _ _ _ => exact absurd fails no
  all_goals assumption

theorem HostErrors.busCause_kept {s b : State} (e : HostErrors s b) (no : ¬ b.busErr = true) :
    b.busCause = s.busCause := by
  cases e
  case busRaised answer _ _ _ => exact absurd answer no
  all_goals assumption

/-- KpdStep sets KEY_OVR by an overrun, and no other bit (R136). -/
theorem KpdEffect.bit_cause {S a c : State} (k : KpdEffect S a c) {i : Nat} (set : c.sticky.getLsbD i = true) :
    a.sticky.getLsbD i = true ∨ (i = 0 ∧ keyOverruns S = true) := by
  rcases k.sticky with h | ⟨ov, h⟩
  · exact .inl (h ▸ set)
  · exact ((sticky_or_bit h i).mp set).imp_right fun hi => ⟨hi, ov⟩

/-- No sub-unit clears an error bit. -/
theorem finishCycle_bit_kept (S a : State) {i : Nat} (set : a.sticky.getLsbD i = true) :
    (finishCycle S a).sticky.getLsbD i = true := by
  rw [finishCycle_sticky]
  have kpd : (kpdStep S a).sticky.getLsbD i = true := by
    rcases (kpdStep_effect S a).sticky with h | ⟨-, h⟩
    · rwa [h]
    · exact (sticky_or_bit h i).mpr (.inl set)
  rcases (tagStep_effect S (kpdStep S a)).errors with ⟨h, -⟩ | ⟨-, c, h, -⟩
  · rwa [h]
  · exact (sticky_or_bit h i).mpr (.inl kpd)

/-- The sub-units set KEY_OVR by an overrun, TAG_ERR by a failed AUTH or READ, and no other bit. -/
theorem finishCycle_bit_cause (S a : State) {i : Nat} (set : (finishCycle S a).sticky.getLsbD i = true) :
    a.sticky.getLsbD i = true ∨ (i = 0 ∧ keyOverruns S = true) ∨ (i = 1 ∧ tagFails S) := by
  have kpd := (kpdStep_effect S a).bit_cause (i := i)
  rw [finishCycle_sticky] at set
  rcases (tagStep_effect S (kpdStep S a)).errors with ⟨h, -⟩ | ⟨fails, c, h, -⟩
  · exact (kpd (h ▸ set)).imp_right .inl
  · rcases (sticky_or_bit h i).mp set with hk | hi
    · exact (kpd hk).imp_right .inl
    · exact .inr (.inr ⟨hi, fails⟩)

theorem TagEffect.tagCause_kept {S a t : State} (k : TagEffect S a t) (no : ¬ tagFails S) : t.tagCause = a.tagCause := by
  rcases k.errors with ⟨-, h⟩ | ⟨fails, -⟩
  · exact h
  · exact absurd fails no

theorem busResponse_of_hostPhase {s b : State} (hr : (input s).rst = false) (h : hostPhase s = .next b) :
    busResponse s = (b.busRdata, b.busErr) := by
  simp [busResponse, hr, h]

theorem keyOverruns_iff (s : State) : keyOverruns s = true ↔ kpEn s = true ∧ s.kpState = .colsArmed ∧
    (input s).kpCol &&& ~~~s.colPrev ≠ 0 ∧ flagSet s .keyReady = true := by
  simp [keyOverruns, colEdge, and_assoc]

theorem tagFails_iff (s : State) : tagFails s ↔ tagEn s = true ∧ ∃ st, rdOutcome s = some st ∧
    (s.tagState = .authenticating ∧ ¬ (st = .ok ∧ 1 ≤ (input s).rspUidlen.toNat ∧ (input s).rspUidlen.toNat ≤ 10)
      ∨ s.tagState = .reading ∧ st ≠ .ok) := by
  simp only [tagFails, uidlenOk, Bool.and_eq_true, decide_eq_true_eq]

/-- Settles O55: each bit and cause through the host's part and then through the sub-units. -/
theorem stickyBitsAreKeptUntilCleared : Obligations.StickyBitsAreKeptUntilCleared := by
  intro s t hr h keyOverrun tagError cmdError busError
  obtain ⟨b, hb, he, rfl⟩ := step_cases hr h
  have errs := (hostPhase_run hb).errors
  have hbus : busError ↔ b.busErr = true := by simp only [busError, busResponse_of_hostPhase hr hb]
  have hkey : keyOverrun ↔ keyOverruns s = true := (keyOverruns_iff s).symm
  have htag : tagError ↔ tagFails s := (tagFails_iff s).symm
  have cause {i : Nat} (set : (finishCycle s b).sticky.getLsbD i = true) : s.sticky.getLsbD i = true ∨
      (i = 0 ∧ keyOverrun) ∨ (i = 1 ∧ tagError) ∨ (i = 2 ∧ cmdError) ∨ (i = 3 ∧ busError) := by
    rw [hkey, htag, hbus]
    rcases finishCycle_bit_cause s b set with hs | hk | ht
    · rcases errs.bit_cause hs with hs | hc | hb
      · exact .inl hs
      · exact .inr (.inr (.inr (.inl hc)))
      · exact .inr (.inr (.inr (.inr hb)))
    · exact .inr (.inl hk)
    · exact .inr (.inr (.inl ht))
  refine ⟨fun i hi set no => finishCycle_bit_kept s b (errs.bit_kept hi set no), fun no set => ?_,
    fun no => ⟨fun set => ?_, ?_⟩, fun no => ⟨fun set => ?_, ?_⟩, fun no => ⟨fun set => ?_, ?_⟩⟩
  · simpa [no] using cause set
  · simpa [no] using cause set
  · rw [finishCycle_tagCause, (tagStep_effect s b).tagCause_kept (htag.not.mp no)]
    exact (HostEffect_tagCause he :)
  · simpa [no] using cause set
  · rw [finishCycle_cmdCause]
    exact errs.cmdCause_kept no
  · simpa [no] using cause set
  · rw [finishCycle_busCause]
    exact errs.busCause_kept (hbus.not.mp no)

end Sys2Proof.Machine
end

section
/-! PROOFS. Every cycle keeps the invariant: its clauses group by the part of the state they speak of, and each group is kept
by the host's part and by the sub-unit that writes it. -/

namespace Sys2Proof.Machine

theorem load_ne_zero (p : Word) : load p ≠ 0 := by
  unfold load
  split
  · decide
  · assumption

theorem sub_one_ne_zero {c : Word} (h : c ≠ 1) : c - 1 ≠ 0 := by
  simpa [BitVec.sub_eq_iff_eq_add] using h

/-! ## KPD -/

/-- The debounce counter runs exactly in ROWS_ARMED (R130, R297). -/
def CounterRuns (s : State) : Prop := s.kpState = .rowsArmed ↔ s.dbCount ≠ 0

theorem KpdEffect.counterRuns {S a c : State} (k : KpdEffect S a c) (hS : CounterRuns S) (st : a.kpState = S.kpState)
    (cnt : a.dbCount = S.dbCount) : CounterRuns c := by
  unfold CounterRuns at *
  rw [← st, ← cnt] at hS
  cases k
  case disable => simp
  case arm off => simpa [st, off] using hS
  case ignore => exact hS
  case overrun => exact hS
  case capture => exact iff_of_true rfl (load_ne_zero _)
  case reload rows => exact iff_of_true (st.trans rows) (load_ne_zero _)
  case count rows more => exact iff_of_true (st.trans rows) (sub_one_ne_zero more)
  case hold => exact hS
  case finalize => simp

/-- The rows are armed by a capture or stay armed, and no flag changes with it (R134, R138). -/
theorem KpdEffect.rowsArmed {S a c : State} (k : KpdEffect S a c) (st : a.kpState = S.kpState)
    (rows : c.kpState = .rowsArmed) : c.flags = a.flags ∧ (S.kpState = .rowsArmed ∨ keyCaptured S = true) := by
  cases k
  case capture cap _ => exact ⟨rfl, .inr cap⟩
  case ignore => exact ⟨rfl, .inl (st ▸ rows)⟩
  case overrun => exact ⟨rfl, .inl (st ▸ rows)⟩
  case reload armed => exact ⟨rfl, .inl armed⟩
  case count armed _ => exact ⟨rfl, .inl armed⟩
  case hold armed => exact ⟨rfl, .inl armed⟩
  all_goals cases rows

/-- KEY holds nothing or a decoded key (R34). -/
def KeyDecoded (s : State) : Prop := (s.keyCode = 0 ∧ s.keyRow = 0 ∧ s.keyCol = 0) ∨
  keyDecode s.params s.keyRow s.keyCol = some s.keyCode

theorem KpdEffect.keyDecoded {S a c : State} (k : KpdEffect S a c) (ha : KeyDecoded a) (par : a.params = S.params) :
    KeyDecoded c := by
  cases k
  case capture code _ dec => exact .inr (by simpa [par] using dec)
  all_goals exact ha

/-- KEY_READY after a cycle is what KpdStep leaves of it. -/
theorem finishCycle_keyReady (S a : State) :
    flagSet (finishCycle S a) .keyReady = flagSet (kpdStep S a) .keyReady := by
  have hend (x : State) : flagSet (endCycle S x) .keyReady = flagSet x .keyReady := rfl
  simp [finishCycle, subUnits, hend, dispStep_flagSet, fccStep_flagSet, tagStep_flagSet]

theorem finishCycle_rows_key_clear {s b : State} (hi : Inv s) (hb : hostPhase s = .next b) (st : b.kpState = s.kpState)
    (rows : (kpdStep s b).kpState = .rowsArmed) : flagSet (finishCycle s b) .keyReady = false := by
  obtain ⟨same, armed⟩ := (kpdStep_effect s b).rowsArmed st rows
  have clear : flagSet s .keyReady = false := by
    rcases armed with armed | cap
    · exact hi.rows_key_clear armed
    · simp_all [keyCaptured]
  rw [finishCycle_keyReady, flagSet_of_flags same, hostPhase_flagSet hb]
  simp [clear]

/-! ## TAG: the reader request -/

/-- No reader request is outstanding (R41, R297). -/
structure RequestFree (s : State) : Prop where
  pend : s.rdPend = false
  issue : s.rdIssue = false
  count : s.xcvCount = 0
  not_authenticating : s.tagState ≠ .authenticating
  not_reading : s.tagState ≠ .reading

/-- The reader request of the TAG state is outstanding and its deadline runs (R41, R297). -/
structure RequestOpen (s : State) : Prop where
  pend : s.rdPend = true
  abort : s.rdAbortQ = false
  count : s.xcvCount ≠ 0
  op : (s.tagState = .polling ∧ s.rdOp = .poll) ∨ (s.tagState = .authenticating ∧ s.rdOp = .auth)
    ∨ (s.tagState = .reading ∧ s.rdOp = .read)

theorem Inv.request {s : State} (hi : Inv s) : RequestFree s ∨ RequestOpen s := by
  cases hp : s.rdPend with
  | false =>
    have waits (h : s.tagState = .authenticating ∨ s.tagState = .reading) : False := by
      simp [hi.rd_state_pend h] at hp
    refine .inl ⟨hp, ?_, ?_, fun h => waits (.inl h), fun h => waits (.inr h)⟩
    · by_contra hissue
      simp [hi.rd_issue_pend (by simpa using hissue)] at hp
    · by_contra hcount
      simp [hi.xcv_running.mpr hcount] at hp
  | true =>
    refine .inr ⟨hp, ?_, hi.xcv_running.mp hp, hi.rd_pend_state hp⟩
    by_contra habort
    simp [hi.rd_abort_free (by simpa using habort)] at hp

theorem tagCounted_of_outcome {S : State} (a : State) {st : RdStatus} (h : rdOutcome S = some st) :
    (tagCounted S a).rdPend = false ∧ (tagCounted S a).xcvCount = 0 ∧ (tagCounted S a).rdAbortQ = rdDeadline S := by
  simp [tagCounted, tagTransceive_of_outcome _ h]

/-- The deadline ends a request with TIMEOUT, so with no other outcome (R182). -/
theorem rdDeadline_of_outcome {S : State} {st : RdStatus} (h : rdOutcome S = some st) (hst : st ≠ .timeout) :
    rdDeadline S = false := by
  cases hd : rdDeadline S with
  | false => rfl
  | true =>
    have noRsp : rdResponse S = false := by simp_all [rdDeadline]
    simp [rdOutcome, noRsp, hd, hst.symm] at h

theorem tagCounted_of_free {S : State} (a : State) (h : RequestFree S) :
    (tagCounted S a).rdPend = a.rdPend ∧ (tagCounted S a).xcvCount = a.xcvCount := by
  simp [tagCounted, tagTransceive_of_none _ (rdOutcome_of_not_pend h.pend), rdLive, h.pend]

/-- A request without an outcome stays open: its deadline does not reach 0 without firing (R182). -/
theorem tagCounted_of_open {S : State} (a : State) (h : RequestOpen S) (waits : rdOutcome S = none)
    (cnt : a.xcvCount = S.xcvCount) : (tagCounted S a).rdPend = a.rdPend ∧ (tagCounted S a).rdAbortQ = a.rdAbortQ
      ∧ (tagCounted S a).xcvCount ≠ 0 := by
  obtain ⟨noRsp, noDeadline⟩ := (rdOutcome_eq_none_iff S).mp waits
  rw [tagCounted, tagTransceive_of_none _ waits]
  split
  case isTrue live =>
    simp only [Bool.and_eq_true] at live
    have more : S.xcvCount ≠ 1 := by simpa [rdDeadline, noRsp, live] using noDeadline
    exact ⟨by simp, by simp, sub_one_ne_zero more⟩
  case isFalse => simpa [cnt] using h.count

/-- TagStep leaves no request, or the one of the state it goes to. -/
theorem TagEffect.request {S a t : State} (k : TagEffect S a t) (host : HostEffect (beginCycle S) a)
    (hS : RequestFree S ∨ RequestOpen S) : RequestFree t ∨ RequestOpen t := by
  have pend : a.rdPend = S.rdPend := (HostEffect_rdPend host :)
  have issue : a.rdIssue = false := HostEffect_rdIssue host
  have abort : a.rdAbortQ = false := HostEffect_rdAbortQ host
  have cnt : a.xcvCount = S.xcvCount := (HostEffect_xcvCount host :)
  have op : a.rdOp = S.rdOp := (HostEffect_rdOp host :)
  have state : a.tagState = S.tagState ∨ S.tagState = .present ∧ a.tagState = .polling := (HostEffect_tagState host :)
  have free_of_idle (st : S.tagState = .idle ∨ S.tagState = .present) : RequestFree S :=
    hS.resolve_right fun h => by rcases st with st | st <;> simpa [st] using h.op
  have counted (free : RequestFree S) : (tagCounted S a).rdPend = false ∧ (tagCounted S a).xcvCount = 0 := by
    simpa [pend, cnt, free.pend, free.count] using tagCounted_of_free a free
  cases k
  case disable => exact .inl ⟨rfl, issue, rfl, by simp, by simp⟩
  case wake st =>
    obtain ⟨p, c⟩ := counted (free_of_idle (.inl st))
    exact .inl ⟨p, by simpa using issue, c, by simp, by simp⟩
  case poll starts =>
    have st : S.tagState = .polling := by simp_all [pollStarts]
    have noRequest : S.rdPend = false := by simp_all [pollStarts]
    have free : RequestFree S := hS.resolve_right fun h => by simp [h.pend] at noRequest
    have quiet : (tagCounted S a).rdAbortQ = false := by
      simpa [tagCounted, tagTransceive_of_none _ (rdOutcome_of_not_pend noRequest), rdLive, noRequest] using abort
    exact .inr ⟨rfl, quiet, load_ne_zero _, .inl ⟨by simpa [st] using state, rfl⟩⟩
  case wait quiet =>
    rcases hS with free | req
    · obtain ⟨p, c⟩ := counted free
      refine .inl ⟨p, by simpa using issue, c, ?_, ?_⟩
      · rcases state with h | ⟨-, h⟩ <;> simp [h, free.not_authenticating]
      · rcases state with h | ⟨-, h⟩ <;> simp [h, free.not_reading]
    · have notPresent : S.tagState ≠ .present := fun st => by simpa [st] using req.op
      obtain ⟨p, q, c⟩ := tagCounted_of_open a req (quiet.resolve_left notPresent) cnt
      have same : a.tagState = S.tagState := state.resolve_right fun h => notPresent h.1
      exact .inr ⟨by simpa [pend, req.pend] using p, q.trans abort, c, by simpa [same, op] using req.op⟩
  case noTag out st ended =>
    obtain ⟨p, c, -⟩ := tagCounted_of_outcome a ended
    have same : a.tagState = .polling := by simpa [st] using state
    exact .inl ⟨p, by simpa using issue, c, by simp [same], by simp [same]⟩
  case auth out starts ended =>
    have notTimeout : out ≠ .timeout := by rintro rfl; simp [authStarts, ended] at starts
    obtain ⟨-, -, q⟩ := tagCounted_of_outcome a ended
    exact .inr ⟨rfl, q.trans (rdDeadline_of_outcome ended notTimeout), load_ne_zero _, .inr (.inl ⟨rfl, rfl⟩)⟩
  case read starts =>
    have ended : rdOutcome S = some .ok := by simp_all [readStarts]
    obtain ⟨-, -, q⟩ := tagCounted_of_outcome a ended
    exact .inr ⟨rfl, q.trans (rdDeadline_of_outcome ended (by simp)), load_ne_zero _, .inr (.inr ⟨rfl, rfl⟩)⟩
  case fail c fails =>
    obtain ⟨-, out, ended, -⟩ := fails
    obtain ⟨p, c, -⟩ := tagCounted_of_outcome a ended
    exact .inl ⟨p, by simpa using issue, c, by simp, by simp⟩
  case publish pub =>
    have ended : rdOutcome S = some .ok := by simp_all [tagPublishes]
    obtain ⟨p, c, -⟩ := tagCounted_of_outcome a ended
    exact .inl ⟨p, by simpa using issue, c, by simp, by simp⟩

/-! ## TAG: the held and the published UID -/

/-- The UID held while READING has a legal length (R178). -/
def HeldUidLegal (s : State) : Prop := s.tagState = .reading → 1 ≤ s.uidlenSh.toNat ∧ s.uidlenSh.toNat ≤ 10

theorem TagEffect.heldUidLegal {S a t : State} (k : TagEffect S a t) (host : HostEffect (beginCycle S) a)
    (hS : HeldUidLegal S) : HeldUidLegal t := by
  have ha : HeldUidLegal a := by
    intro reading
    rcases HostEffect_tagState host with same | ⟨-, closed⟩
    · rw [HostEffect_uidlenSh host]
      exact hS (same.symm.trans reading)
    · simp [closed] at reading
  intro reading
  cases k
  case read starts =>
    have legal : uidlenOk S = true := by simp_all [readStarts]
    simpa [uidlenOk] using legal
  case poll => simpa using ha (by simpa using reading)
  case wait => simpa using ha (by simpa using reading)
  case noTag => simpa using ha (by simpa using reading)
  all_goals cases reading

/-- The published UID has a legal length and is 0 above it (R36, R180). -/
structure UidPublished (s : State) : Prop where
  len : s.tagUidlen.toNat ≤ 10
  tail : ∀ i, i < 10 → s.tagUidlen.toNat ≤ i → (tagUid s).extractLsb' (8 * i) 8 = 0#8

theorem UidPublished.of_eq {s t : State} (h : UidPublished s) (len : t.tagUidlen = s.tagUidlen) (uid : tagUid t = tagUid s) :
    UidPublished t :=
  ⟨by rw [len]; exact h.len, fun i hi hle => by rw [uid]; exact h.tail i hi (by rwa [len] at hle)⟩

theorem tagUid_publish (u : BitVec 80) (l : BitVec 4) (d : BitVec 128) (a : State) :
    tagUid (publish u l d a) = uidKept u l := uid_parts _

theorem uidPublished_publish {l : BitVec 4} (hl : l.toNat ≤ 10) (u : BitVec 80) (d : BitVec 128) (a : State) :
    UidPublished (publish u l d a) :=
  ⟨hl, fun i hi hle => by
    rw [tagUid_publish, uidKept_byte _ _ _ hi, if_neg (show ¬ i < l.toNat from Nat.not_lt.mpr hle)]⟩

theorem TagEffect.uidPublished {S a t : State} (k : TagEffect S a t) (ha : UidPublished a) (hS : HeldUidLegal S) :
    UidPublished t := by
  cases k
  case publish pub =>
    have reading : S.tagState = .reading := by simp_all [tagPublishes]
    exact (uidPublished_publish (hS reading).2 S.uidSh (input S).rspData (tagCounted S a)).of_eq rfl rfl
  case disable => exact ha.of_eq rfl rfl
  all_goals exact ha.of_eq (tagCounted_tagUidlen S a) (tagCounted_tagUid S a)

/-! ## FCC and the flash array -/

/-- No flash request is outstanding (R42). -/
structure FlashFree (s : State) : Prop where
  state : s.fccState = .idle
  pend : s.flPend = false
  issue : s.flIssue = false

/-- The flash request of the FCC state is outstanding (R42, R210). -/
structure FlashOpen (s : State) : Prop where
  pend : s.flPend = true
  op : (s.fccState = .erasing ∧ s.flOp = .erase) ∨ (s.fccState = .programming ∧ s.flOp = .program)
    ∨ (s.fccState = .loading ∧ s.flOp = .read)

theorem Inv.flashRequest {s : State} (hi : Inv s) : FlashFree s ∨ FlashOpen s := by
  have pend := hi.fl_pend_state
  obtain ⟨erase, program, read⟩ := hi.fl_op_state
  cases st : s.fccState
  case idle =>
    have noRequest : s.flPend = false := by simpa [fccBusy, st] using pend
    refine .inl ⟨st, noRequest, ?_⟩
    by_contra hissue
    simp [hi.fl_issue_pend (by simpa using hissue)] at noRequest
  case erasing => exact .inr ⟨pend.trans (by simp [fccBusy, st]), .inl ⟨st, erase st⟩⟩
  case programming => exact .inr ⟨pend.trans (by simp [fccBusy, st]), .inr (.inl ⟨st, program st⟩)⟩
  case loading => exact .inr ⟨pend.trans (by simp [fccBusy, st]), .inr (.inr ⟨st, read st⟩)⟩

/-- The host issues a flash request from IDLE only, by COMMIT or LOAD (R211, R214). -/
theorem HostEffect.flashRequest {s b : State} (host : HostEffect (beginCycle s) b) (hs : FlashFree s ∨ FlashOpen s) :
    (FlashFree b ∨ FlashOpen b) ∧ (s.fccState ≠ .idle → b.flIssue = false) := by
  cases host
  case commit idle => exact ⟨.inr ⟨rfl, .inl ⟨rfl, rfl⟩⟩, absurd idle⟩
  case load idle => exact ⟨.inr ⟨rfl, .inr (.inr ⟨rfl, rfl⟩)⟩, absurd idle⟩
  all_goals exact ⟨hs.imp (fun f => ⟨f.state, f.pend, rfl⟩) (fun o => ⟨o.pend, o.op⟩), fun _ => rfl⟩

theorem FccEffect.flashRequest {S a t : State} (k : FccEffect S a t) (ha : FlashFree a ∨ FlashOpen a)
    (issue : S.fccState ≠ .idle → a.flIssue = false) : FlashFree t ∨ FlashOpen t := by
  cases k
  case wait => exact ha
  case erased => exact .inr ⟨rfl, .inr (.inl ⟨rfl, rfl⟩)⟩
  case programmed st _ => exact .inl ⟨rfl, rfl, issue (by simp [st])⟩
  case loaded st _ => exact .inl ⟨rfl, rfl, issue (by simp [st])⟩

/-- The flash array is canonical and within FLASH_SIZE (R71). -/
structure FlashOk (p : Params) (m : List Host.Cell) : Prop where
  wf : flashWf m = true
  bound : ∀ c ∈ m, c.1 < p.flashSize

theorem FlashOk.erase {p : Params} {m : List Host.Cell} (h : FlashOk p m) (a len : Nat) : FlashOk p (flashErase m a len) :=
  ⟨flashWf_erase h.wf a len, flashErase_bound h.bound a len⟩

/-- A byte string of at most a sector fits the ledger sector (R79). -/
theorem FlashOk.writeSector {p : Params} {m : List Host.Cell} (h : FlashOk p m) {bs : List Byte}
    (len : bs.length ≤ sectorBytes) : FlashOk p (flashWriteBytes m (sectorBase p) bs) := by
  refine ⟨flashWf_writeBytes h.wf bs _, flashWriteBytes_bound h.bound bs _ ?_⟩
  rw [sectorBase_eq, Params.flashSize]
  simp only [sectorBytes] at len
  omega

theorem FccEffect.flashOk {S a t : State} (k : FccEffect S a t) (ha : FlashOk a.params a.flash) :
    FlashOk a.params t.flash := by
  cases k
  case erased => exact ha.erase _ _
  case programmed => exact ha.writeSector (by simp [pageImage_length, sectorBytes])
  all_goals exact ha

/-! ## The error record -/

/-- A cause field holds a cause of its table, and one when its sticky bit is set (R280 to R283). -/
structure CauseHeld (bit : Bool) (cause : BitVec 3) (last : Nat) : Prop where
  legal : cause.toNat ≤ last
  recorded : bit = true → cause ≠ 0

theorem CauseHeld.of_imp {b b' : Bool} {c c' : BitVec 3} {n : Nat} (h : CauseHeld b c n) (same : c' = c)
    (imp : b' = true → b = true) : CauseHeld b' c' n :=
  ⟨same ▸ h.legal, fun hb => same ▸ h.recorded (imp hb)⟩

theorem causeHeld_tag (bit : Bool) (c : TagCause) : CauseHeld bit (tagCauseCode c) 4 := by
  cases c <;> exact ⟨by decide, fun _ => by decide⟩

theorem causeHeld_cmd (bit : Bool) (c : CmdCause) : CauseHeld bit (cmdCauseCode c) 3 := by
  cases c <;> exact ⟨by decide, fun _ => by decide⟩

theorem causeHeld_bus (bit : Bool) (c : BusCause) : CauseHeld bit (busCauseCode c) 5 := by
  cases c <;> exact ⟨by decide, fun _ => by decide⟩

/-- The three classes of error that have causes. -/
structure ErrorsHeld (s : State) : Prop where
  tag : CauseHeld (s.sticky.getLsbD 1) s.tagCause 4
  cmd : CauseHeld (s.sticky.getLsbD 2) s.cmdCause 3
  bus : CauseHeld (s.sticky.getLsbD 3) s.busCause 5

theorem Inv.errorsHeld {s : State} (hi : Inv s) : ErrorsHeld s := by
  obtain ⟨tagLegal, cmdLegal, busLegal⟩ := hi.causes_legal
  obtain ⟨tagSet, cmdSet, busSet⟩ := hi.sticky_cause
  exact ⟨⟨tagLegal, tagSet⟩, ⟨cmdLegal, cmdSet⟩, ⟨busLegal, busSet⟩⟩

theorem HostErrors.errorsHeld {s b : State} (e : HostErrors s b) (tagSame : b.tagCause = s.tagCause) (hs : ErrorsHeld s) :
    ErrorsHeld b := by
  cases e
  case kept sticky cmd bus =>
    exact ⟨hs.tag.of_imp tagSame (sticky ▸ id), hs.cmd.of_imp cmd (sticky ▸ id), hs.bus.of_imp bus (sticky ▸ id)⟩
  case cleared v access sticky cmd bus =>
    have imp (i : Nat) (set : b.sticky.getLsbD i = true) : s.sticky.getLsbD i = true := by
      rw [sticky, BitVec.getLsbD_and, Bool.and_eq_true] at set
      exact set.1
    exact ⟨hs.tag.of_imp tagSame (imp 1), hs.cmd.of_imp cmd (imp 2), hs.bus.of_imp bus (imp 3)⟩
  case cmdRaised c _ sticky cmd bus =>
    have other {i : Nat} (hi : i ≠ 2) (set : b.sticky.getLsbD i = true) : s.sticky.getLsbD i = true :=
      ((sticky_or_bit sticky i).mp set).resolve_right hi
    exact ⟨hs.tag.of_imp tagSame (other (by decide)), cmd ▸ causeHeld_cmd _ c, hs.bus.of_imp bus (other (by decide))⟩
  case busRaised c _ sticky cmd bus =>
    have other {i : Nat} (hi : i ≠ 3) (set : b.sticky.getLsbD i = true) : s.sticky.getLsbD i = true :=
      ((sticky_or_bit sticky i).mp set).resolve_right hi
    exact ⟨hs.tag.of_imp tagSame (other (by decide)), hs.cmd.of_imp cmd (other (by decide)), bus ▸ causeHeld_bus _ c⟩

theorem finishCycle_errorsHeld {a : State} (S : State) (ha : ErrorsHeld a) : ErrorsHeld (finishCycle S a) := by
  refine ⟨?_, ha.cmd.of_imp (finishCycle_cmdCause S a) ?_, ha.bus.of_imp (finishCycle_busCause S a) ?_⟩
  · have written : (finishCycle S a).tagCause = (tagStep S (kpdStep S a)).tagCause :=
      (finishCycle_tagCause S a).trans (tagStep_tagCause_congr S (kpdStep_tagCause S a)).symm
    rcases (tagStep_effect S (kpdStep S a)).errors with ⟨sticky, same⟩ | ⟨-, c, -, cause⟩
    · refine ha.tag.of_imp (written.trans (same.trans (kpdStep_tagCause S a))) fun set => ?_
      rw [finishCycle_sticky, sticky] at set
      exact ((kpdStep_effect S a).bit_cause set).resolve_right (by simp)
    · rw [written, cause]
      exact causeHeld_tag _ c
  · exact fun set => by simpa using finishCycle_bit_cause S a set
  · exact fun set => by simpa using finishCycle_bit_cause S a set

/-! ## The whole invariant -/

/-- The groups of clauses put together. -/
theorem inv_of_groups {s : State} (presc : s.presc < s.params.tickCycles) (counter : CounterRuns s)
    (keyClear : s.kpState = .rowsArmed → flagSet s .keyReady = false) (key : KeyDecoded s)
    (request : RequestFree s ∨ RequestOpen s) (held : HeldUidLegal s) (uid : UidPublished s)
    (flashRequest : FlashFree s ∨ FlashOpen s) (errors : ErrorsHeld s) (flash : FlashOk s.params s.flash) : Inv s where
  presc_lt := presc
  rows_counting := counter.mp
  not_rows_stopped := fun h => by simpa [h] using counter.not
  rows_key_clear := keyClear
  key_decoded := key
  rd_pend_state := fun h => by
    rcases request with free | req
    · simp [free.pend] at h
    · exact req.op
  rd_state_pend := fun h => by
    rcases request with free | req
    · exact absurd h (not_or.mpr ⟨free.not_authenticating, free.not_reading⟩)
    · exact req.pend
  rd_issue_pend := fun h => by
    rcases request with free | req
    · simp [free.issue] at h
    · exact req.pend
  rd_abort_free := fun h => by
    rcases request with free | req
    · exact free.pend
    · simp [req.abort] at h
  xcv_running := by
    rcases request with free | req
    · simp [free.pend, free.count]
    · exact iff_of_true req.pend req.count
  uid_held := held
  uidlen_le := uid.len
  uid_tail := uid.tail
  fl_pend_state := by
    rcases flashRequest with free | req
    · simp [free.pend, fccBusy, free.state]
    · rcases req.op with ⟨st, -⟩ | ⟨st, -⟩ | ⟨st, -⟩ <;> exact req.pend.trans (by simp [fccBusy, st])
  fl_op_state := by
    rcases flashRequest with free | req
    · simp [free.state]
    · rcases req.op with ⟨st, op⟩ | ⟨st, op⟩ | ⟨st, op⟩ <;> simp [st, op]
  fl_issue_pend := fun h => by
    rcases flashRequest with free | req
    · simp [free.issue] at h
    · exact req.pend
  causes_legal := ⟨errors.tag.legal, errors.cmd.legal, errors.bus.legal⟩
  sticky_cause := ⟨errors.tag.recorded, errors.cmd.recorded, errors.bus.recorded⟩
  flash_wf := flash.wf
  flash_bound := flash.bound

/-- The prescaler wraps before TICK_CYCLES (R43, R295). -/
theorem prescNext_lt {s : State} (h : s.presc < s.params.tickCycles) : prescNext s < s.params.tickCycles := by
  unfold prescNext
  split
  case isTrue => exact Nat.succ_pos _
  case isFalse more =>
    simp only [tick, beq_iff_eq, Params.tickCycles] at more h ⊢
    omega

/-- A cycle without reset keeps the invariant. -/
theorem finishCycle_inv {s b : State} (hi : Inv s) (hb : hostPhase s = .next b) (host : HostEffect (beginCycle s) b) :
    Inv (finishCycle s b) := by
  have par : b.params = s.params := (HostEffect_params host :)
  have flash : b.flash = s.flash := (HostEffect_flash host :)
  have kp : b.kpState = s.kpState := (HostEffect_kpState host :)
  have kpd := kpdStep_effect s b
  have tag := tagStep_effect s b
  have fcc := fccStep_effect s b
  have counter : CounterRuns s :=
    ⟨hi.rows_counting, fun running => by_contra fun h => running (hi.not_rows_stopped h)⟩
  have key : KeyDecoded b := by
    simpa [KeyDecoded, par, HostEffect_keyCode host, HostEffect_keyRow host, HostEffect_keyCol host] using hi.key_decoded
  have held : HeldUidLegal s := hi.uid_held
  have uid : UidPublished b := (UidPublished.mk hi.uidlen_le hi.uid_tail).of_eq (HostEffect_tagUidlen host :)
    (by simp [tagUid, HostEffect_tagUid0 host, HostEffect_tagUid1 host, HostEffect_tagUid2 host])
  have flashOk : FlashOk b.params b.flash := by rw [par, flash]; exact ⟨hi.flash_wf, hi.flash_bound⟩
  obtain ⟨flashRequest, flashIssue⟩ := host.flashRequest hi.flashRequest
  apply inv_of_groups
  case presc => simpa [par] using prescNext_lt hi.presc_lt
  case counter => simpa [CounterRuns] using kpd.counterRuns counter kp (HostEffect_dbCount host :)
  case keyClear => exact fun rows => finishCycle_rows_key_clear hi hb kp (by simpa using rows)
  case key => simpa [KeyDecoded] using kpd.keyDecoded key par
  case request =>
    exact (tag.request host hi.request).imp (fun f => ⟨by simpa using f.pend, by simpa using f.issue,
      by simpa using f.count, by simpa using f.not_authenticating, by simpa using f.not_reading⟩)
      (fun o => ⟨by simpa using o.pend, by simpa using o.abort, by simpa using o.count, by simpa using o.op⟩)
  case held => simpa [HeldUidLegal] using tag.heldUidLegal host held
  case uid => exact (tag.uidPublished uid held).of_eq (finishCycle_tagUidlen s b) (finishCycle_tagUid s b)
  case flashRequest =>
    exact (fcc.flashRequest flashRequest flashIssue).imp
      (fun f => ⟨by simpa using f.state, by simpa using f.pend, by simpa using f.issue⟩)
      (fun o => ⟨by simpa using o.pend, by simpa using o.op⟩)
  case errors =>
    exact finishCycle_errorsHeld s ((hostPhase_run hb).errors.errorsHeld (HostEffect_tagCause host :) hi.errorsHeld)
  case flash => simpa using fcc.flashOk flashOk

/-- A reset leaves the flash array canonical and in bounds, also when it breaks off a commit (R219, R323, R324). -/
theorem resetCycle_flashOk {s : State} (h : FlashOk s.params s.flash) : FlashOk s.params (resetCycle s).flash := by
  have stored : FlashOk s.params (sectorFreed s).flash := by
    rw [sectorFreed_flash]
    exact h.writeSector (freeBytes_length _ _).le
  cases hold : irqHold s with
  | true => simpa [resetCycle, hold] using stored
  | false => simpa [resetCycle, hold] using h

theorem resetCycle_inv {s : State} (hi : Inv s) : Inv (resetCycle s) := by
  have sticky : (resetCycle s).sticky = 0 := rfl
  have flash : FlashOk s.params (resetCycle s).flash := resetCycle_flashOk ⟨hi.flash_wf, hi.flash_bound⟩
  apply inv_of_groups
  case presc => exact Nat.succ_pos _
  case counter => exact iff_of_false (by simp [resetCycle, State.reset]) (by simp [resetCycle, State.reset])
  case keyClear => simp [resetCycle, State.reset]
  case key => exact .inl ⟨rfl, rfl, rfl⟩
  case request => exact .inl ⟨rfl, rfl, rfl, by simp [resetCycle, State.reset], by simp [resetCycle, State.reset]⟩
  case held => exact fun reading => by cases reading
  case uid => exact ⟨Nat.zero_le _, fun i hi _ => by simp [tagUid, resetCycle, State.reset]⟩
  case flashRequest => exact .inl ⟨rfl, rfl, rfl⟩
  case errors =>
    exact ⟨⟨Nat.zero_le _, by simp [sticky]⟩, ⟨Nat.zero_le _, by simp [sticky]⟩, ⟨Nat.zero_le _, by simp [sticky]⟩⟩
  case flash => exact flash

/-- Settles O60: a cycle of reset leaves the values of ResetState, and any other cycle keeps each group of clauses. -/
theorem everyCycleKeepsTheInvariant : Obligations.EveryCycleKeepsTheInvariant := by
  intro s t hi h
  cases hr : (input s).rst with
  | true =>
    obtain rfl := Host.Outcome.next.inj ((step_of_reset hr).symm.trans h)
    exact resetCycle_inv hi
  | false =>
    obtain ⟨b, hb, host, rfl⟩ := step_cases hr h
    exact finishCycle_inv hi hb host

end Sys2Proof.Machine
end

section
/-! PROOFS. The obligations on the host's accesses: the checks of a descriptor in their order (R74), a refused access and a
read against the same cycle without the access (R77, R242). -/

namespace Sys2Proof.Machine

/-! ## The registers of a word access -/

/-- The offsets of the read-only registers (R240). -/
def readOnlyOffsets : List Nat :=
  [0x00, 0x18, 0x1C, 0x30, 0x34, 0x38, 0x3C, 0x40, 0x44, 0x48, 0x4C, 0x50, 0x54, 0x58, 0x5C]

/-- An aligned offset below 0x9C is that of one of the 39 registers (R22). -/
theorem exists_register_offset {a : BitVec 8} (align : a.toNat % 4 = 0) (mapped : a.toNat < 0x9C) :
    ∃ k : Fin 39, a = BitVec.ofNat 8 (4 * k) :=
  ⟨⟨a.toNat / 4, by omega⟩, BitVec.eq_of_toNat_eq (by simp; omega)⟩

theorem decodeRead_mapped {a : BitVec 8} (align : a.toNat % 4 = 0) (mapped : a.toNat < 0x9C) :
    ∃ i, decodeRead a = .ok i := by
  obtain ⟨k, rfl⟩ := exists_register_offset align mapped
  fin_cases k <;> exact ⟨_, rfl⟩

theorem decodeWrite_readOnly {a : BitVec 8} (v : Word) (ro : a.toNat ∈ readOnlyOffsets) :
    decodeWrite a v = .error .writeRo := by
  unfold decodeWrite
  split
  case h_25 => rfl
  all_goals exact absurd ro (by decide)

theorem decodeWrite_writable {a : BitVec 8} (v : Word) (align : a.toNat % 4 = 0) (mapped : a.toNat < 0x9C)
    (writable : a.toNat ∉ readOnlyOffsets) : ∃ i, decodeWrite a v = .ok i := by
  obtain ⟨k, rfl⟩ := exists_register_offset align mapped
  fin_cases k <;> simp [readOnlyOffsets, decodeWrite] at writable ⊢

/-! ## The checks of R74 -/

/-- The decoder's checks, on the fields of the descriptor. -/
theorem decodeBus_busDescriptor (we : Bool) (size : BitVec 2) (a : BitVec 8) (v : Word) :
    decodeBus (busDescriptor we size a) v =
      if size ≠ 2 then .error .size
      else if a.extractLsb' 0 2 ≠ 0 then .error .misaligned
      else if 0x9C ≤ a.toNat then .error .unmapped
      else if we then decodeWrite a v else decodeRead a := by
  simp only [decodeBus, descWe_busDescriptor, descSize_busDescriptor, descAddr_busDescriptor, bne_iff_ne]

/-- Settles O2: the decoder makes the first three checks itself; a mapped register can always be read, and can be written
when it is not one of the read-only ones. -/
theorem descriptorChecksInOrder : Obligations.DescriptorChecksInOrder := by
  intro we size a v
  rw [decodeBus_busDescriptor]
  have aligned (h : ¬ a.extractLsb' 0 2 ≠ 0) : a.toNat % 4 = 0 := (extractLsb_two_eq_zero_iff a).mp (not_not.mp h)
  split_ifs with hsize align mapped readOnly write write
  · rfl
  · rfl
  · rfl
  · exact decodeWrite_readOnly v readOnly.2
  · exact absurd readOnly.1 write
  · exact decodeWrite_writable v (aligned align) (Nat.not_le.mp mapped) fun ro => readOnly ⟨write, ro⟩
  · exact decodeRead_mapped (aligned align) (Nat.not_le.mp mapped)

/-! ## Reads -/

theorem decodeRead_exec {a : BitVec 8} {i : Instr} (h : decodeRead a = .ok i) (b : State) :
    ∃ d, exec i b = .next (respondRead d b) := by
  unfold decodeRead at h
  split at h <;> cases h <;> exact ⟨_, rfl⟩

/-- The host's part of a cycle that runs an access is the access's own meaning. -/
theorem hostPhase_of_run {s : State} {i : Instr} (hf : fetch s = .run i) : hostPhase s = exec i (beginCycle s) := by
  simp [hostPhase, hf]

/-- The access that runs is the one of its register (R101). -/
theorem register_of_run {s : State} {i : Instr} (hf : fetch s = .run i) :
    (if (input s).busWe then decodeWrite (input s).busAddr (input s).busWdata else decodeRead (input s).busAddr) =
      .ok i := by
  obtain ⟨-, hd⟩ := fetch_eq_run_iff.mp hf
  rw [decodeBus_eq_ok_iff, descWe_busDescriptor, descAddr_busDescriptor] at hd
  obtain ⟨-, -, -, hreg⟩ := hd
  exact hreg

/-- A word read on the bus pins runs, and its whole effect is its answer (R77). -/
theorem hostPhase_of_read {s : State} {i : Instr} (hf : fetch s = .run i) (read : (input s).busWe = false) :
    ∃ d, hostPhase s = .next (respondRead d (beginCycle s)) := by
  obtain ⟨d, he⟩ := decodeRead_exec (by simpa [read] using register_of_run hf) (beginCycle s)
  exact ⟨d, (hostPhase_of_run hf).trans he⟩

/-- Settles O8: the answer of a read is all that the host's part leaves, and the sub-units do not touch it. -/
theorem readCycleHasNoSideEffect : Obligations.ReadCycleHasNoSideEffect := by
  intro s t hr hv read size align mapped ht
  obtain rfl := step_withoutAccess hr ht
  obtain ⟨i, hreg⟩ := decodeRead_mapped align mapped
  have hf : fetch s = .run i := by
    rw [fetch_eq_run_iff, decodeBus_eq_ok_iff, descWe_busDescriptor, descSize_busDescriptor, descAddr_busDescriptor, read]
    exact ⟨hv, size, align, mapped, hreg⟩
  obtain ⟨d, hd⟩ := hostPhase_of_read hf read
  rw [busResponse_of_hostPhase hr hd]
  exact ⟨(step_of_hostPhase hr hd).trans (congrArg _ (finishCycle_with_busRdata d s (beginCycle s))), rfl⟩

/-! ## Writes -/

theorem exec_of_writesLedger {i : Instr} (word : writesLedger i = true) :
    ∃ k v, ∀ b, exec i b = .next (writeLedger k v b) := by
  cases i <;> cases word <;> exact ⟨_, _, fun _ => rfl⟩

/-- The CMD write succeeds whatever becomes of its command (R248, R249). -/
theorem execWrCmd_busErr {v : Word} {b h : State} (he : execWrCmd v b = .next h) : h.busErr = false := by
  unfold execWrCmd execSessionClose execCommit execLoad at he
  repeat' split at he
  all_goals cases he; rfl

/-- Only a LEDGER write can be refused by its own meaning. -/
theorem decodeWrite_exec_busErr {a : BitVec 8} {v : Word} {i : Instr} {b h : State} (hd : decodeWrite a v = .ok i)
    (noLedger : writesLedger i = false) (he : exec i b = .next h) : h.busErr = false := by
  unfold decodeWrite at hd
  split at hd
  case h_1 | h_2 | h_3 | h_4 | h_6 | h_7 | h_8 | h_9 => cases hd; cases he; rfl
  case h_5 => cases hd; exact execWrCmd_busErr he
  all_goals cases hd <;> cases noLedger

/-- A write that decodes is accepted, but for a LEDGER write while FCC is busy (R76). -/
theorem decodeWrite_exec_accepted {a : BitVec 8} {v : Word} {i : Instr} {b h : State} (hd : decodeWrite a v = .ok i)
    (idle : 0x60 ≤ a.toNat → b.fccState = .idle) (he : exec i b = .next h) : h.busErr = false := by
  cases word : writesLedger i with
  | false => exact decodeWrite_exec_busErr hd word he
  | true =>
    obtain ⟨k, w, hk⟩ := exec_of_writesLedger word
    have hidle : b.fccState = .idle := idle (by simpa [decodeWrite_writesLedger hd] using word)
    obtain rfl := Host.Outcome.next.inj ((hk b).symm.trans he)
    simp [writeLedger, fccBusy, hidle]

/-! ## Refused accesses -/

/-- The cycle records a refused access over what `t` holds, and answers the refusal (R74, R280). -/
def RefusedWith (s t : State) (code : BitVec 3) : Prop :=
  step s = .next { t with sticky := t.sticky ||| 0b1000, busCause := code, busErr := true, busRdata := 0 }
    ∧ busResponse s = (0, true)

theorem refusedWith_of_hostPhase {s : State} {c : BusCause} (hr : (input s).rst = false)
    (h : hostPhase s = .next (busError c (beginCycle s))) :
    RefusedWith s (finishCycle s (beginCycle s)) (busCauseCode c) :=
  ⟨(step_of_hostPhase hr h).trans (congrArg _ (finishCycle_busError c s (beginCycle s))), busResponse_of_hostPhase hr h⟩

theorem hostPhase_of_decode_error {s : State} {c : BusCause} (hv : (input s).busValid = true)
    (h : decodeBus (busDescriptor (input s).busWe (input s).busSize (input s).busAddr) (input s).busWdata = .error c) :
    hostPhase s = .next (busError c (beginCycle s)) := by
  have hf : fetch s = .refused c := by simp [fetch, hv, h]
  simp [hostPhase, hf]

/-- A LEDGER write while FCC is busy is refused by its own meaning (R76). -/
theorem hostPhase_of_ledger_busy {s : State} {i : Instr} (hf : fetch s = .run i) (we : (input s).busWe = true)
    (offset : 0x60 ≤ (input s).busAddr.toNat) (busy : s.fccState ≠ .idle) :
    hostPhase s = .next (busError .fccBusyWrite (beginCycle s)) := by
  have hreg : decodeWrite (input s).busAddr (input s).busWdata = .ok i := by simpa [we] using register_of_run hf
  have word : writesLedger i = true := (decodeWrite_writesLedger hreg).trans (decide_eq_true offset)
  obtain ⟨k, v, hk⟩ := exec_of_writesLedger word
  simp [hostPhase_of_run hf, hk, writeLedger, fccBusy, busy]

/-- An access that decodes is not refused, but for a LEDGER write while FCC is busy. -/
theorem busResponse_of_run {s : State} {i : Instr} (hr : (input s).rst = false) (hf : fetch s = .run i)
    (idle : (input s).busWe = true → 0x60 ≤ (input s).busAddr.toNat → s.fccState = .idle) :
    (busResponse s).2 = false := by
  cases we : (input s).busWe with
  | false =>
    obtain ⟨d, hb⟩ := hostPhase_of_read hf we
    rw [busResponse_of_hostPhase hr hb, respondRead_busErr]
  | true =>
    have hreg : decodeWrite (input s).busAddr (input s).busWdata = .ok i := by simpa [we] using register_of_run hf
    obtain ⟨b, hb, -⟩ := hostPhase_effect s
    rw [busResponse_of_hostPhase hr hb]
    exact decodeWrite_exec_accepted hreg (b := beginCycle s) (idle we) ((hostPhase_of_run hf).symm.trans hb)

/-- Settles O7: the first four checks are the decoder's, in its order; the fifth is the LEDGER write's own, and every other
access that decodes is accepted. -/
theorem refusedAccessOnlyRecordsItsCause : Obligations.RefusedAccessOnlyRecordsItsCause := by
  intro s t hr hv ht
  obtain rfl := step_withoutAccess hr ht
  have refused (c : BusCause) (h : decodeBus _ _ = .error c) :
      RefusedWith s (finishCycle s (beginCycle s)) (busCauseCode c) :=
    refusedWith_of_hostPhase hr (hostPhase_of_decode_error hv h)
  have checks := descriptorChecksInOrder (input s).busWe (input s).busSize (input s).busAddr (input s).busWdata
  simp only [ne_eq, extractLsb_two_eq_zero_iff] at checks
  dsimp only
  split_ifs at checks ⊢ with size align mapped readOnly ledger
  · exact refused .size checks
  · exact refused .misaligned checks
  · exact refused .unmapped checks
  · exact refused .writeRo checks
  · obtain ⟨i, hi⟩ := checks
    obtain ⟨we, offset, busy⟩ := ledger
    exact refusedWith_of_hostPhase hr (hostPhase_of_ledger_busy (fetch_eq_run_iff.mpr ⟨hv, hi⟩) we offset busy)
  · obtain ⟨i, hi⟩ := checks
    exact busResponse_of_run hr (fetch_eq_run_iff.mpr ⟨hv, hi⟩)
      fun we offset => not_not.mp fun busy => ledger ⟨we, offset, busy⟩

end Sys2Proof.Machine
end

section
/-! PROOFS. The obligations on the encodings: decoding and encoding agree format by format (R100 to R108), the sample words,
and the key decode (R111). -/

namespace Sys2Proof.Machine

/-! ## The words of a decoded instruction -/

/-- A descriptor is its three fields (R100). -/
theorem busDescriptor_fields (d : BitVec 11) : busDescriptor (descWe d) (descSize d) (descAddr d) = d := by
  apply BitVec.eq_of_getLsbD_eq
  intro k hk
  rw [busDescriptor_getLsbD]
  split_ifs with addr size
  · simp [descAddr, addr]
  · simp [descSize, size, show 8 + (k - 8) = k by omega]
  · obtain rfl : k = 10 := by omega
    simp [descWe]

/-- A read that decodes is the word read of its offset (R101). -/
theorem encode_of_decodeRead {a : BitVec 8} {i : Instr} (h : decodeRead a = .ok i) :
    encode i = .bus (busDescriptor false 2 a) 0 := by
  unfold decodeRead at h
  split at h <;> cases h <;> rfl

/-- A write that decodes is the word write of its offset with its data (R101). -/
theorem encode_of_decodeWrite {a : BitVec 8} {v : Word} {i : Instr} (h : decodeWrite a v = .ok i) :
    encode i = .bus (busDescriptor true 2 a) v := by
  unfold decodeWrite at h
  split at h <;> cases h <;> rfl

/-- An accepted word access is the word access of its offset, a read's data as 0 (R100). -/
theorem encode_of_register {we : Bool} {a : BitVec 8} {v : Word} {i : Instr}
    (h : (if we then decodeWrite a v else decodeRead a) = .ok i) :
    encode i = .bus (busDescriptor we 2 a) (if we then v else 0) := by
  cases we with
  | false => exact encode_of_decodeRead h
  | true => exact encode_of_decodeWrite h

theorem encode_of_decodeBus {d : BitVec 11} {v : Word} {i : Instr} (h : decodeBus d v = .ok i) :
    encode i = (Encoding.bus d v).withoutReadData := by
  obtain ⟨size, -, -, register⟩ := decodeBus_eq_ok_iff.mp h
  rw [encode_of_register register, ← size, busDescriptor_fields]
  rfl

/-- A command's word is its OP, the reserved bits 0 (R102, R103). -/
theorem encode_command (c : Command) : encode c.instr = .cmd (BitVec.ofNat 32 (commandOp c)) := by
  cases c <;> rfl

theorem encode_of_decodeCmd {w : Word} {c : Command} (h : decodeCmd w = .ok c) : encode c.instr = .cmd w := by
  rw [encode_command, ← decodeCmd_ok_toNat h, BitVec.ofNat_toNat, BitVec.setWidth_eq]

/-! ## Decoding and encoding agree -/

/-- The words of every instruction decode to it, whatever its operand. -/
theorem decode_encode (i : Instr) : decode (encode i) = .ok i := by
  cases i <;> rfl

/-- The decoder does not look at the write data of a read (R100). -/
theorem decode_withoutReadData (e : Encoding) : decode e.withoutReadData = decode e := by
  cases e with
  | bus d v => cases we : descWe d <;> simp [Encoding.withoutReadData, decode, decodeBus, we]
  | cmd w => rfl
  | rdr op => rfl
  | flp op => rfl

/-- Words that decode to an instruction are its words, in each of the four formats. -/
theorem encode_of_decode {e : Encoding} {i : Instr} (h : decode e = .ok i) : encode i = e.withoutReadData := by
  cases e with
  | bus d v =>
    cases hd : decodeBus d v with
    | ok j =>
      obtain rfl : j = i := by simpa [decode, hd] using h
      exact encode_of_decodeBus hd
    | error c => simp [decode, hd] at h
  | cmd w =>
    cases hd : decodeCmd w with
    | ok c =>
      obtain rfl : c.instr = i := by simpa [decode, hd] using h
      exact encode_of_decodeCmd hd
    | error c => simp [decode, hd] at h
  | rdr op =>
    dsimp only [decode] at h
    split at h <;> cases h <;> rfl
  | flp op =>
    dsimp only [decode] at h
    split at h <;> cases h <;> rfl

/-- Settles O1: the decoder ignores a read's data, so it gives back the instruction whose words these are; and words that
decode are the words of what they decode to. -/
theorem decodeAndEncodeAgree : Obligations.DecodeAndEncodeAgree := by
  intro e i
  constructor
  · exact fun h => (encode_of_decode h).symm
  · intro h
    rw [← decode_withoutReadData, h, decode_encode]

/-- Settles O3: the five words that decode are the words of their instruction; the sixth has a reserved bit set. -/
theorem sampleWordsDecode : Obligations.SampleWordsDecode :=
  ⟨decode_encode .rdStatus, decode_encode (.wrLedger3 7), decode_encode .commit, rfl, decode_encode .rAuth,
    decode_encode .flRead⟩

/-! ## The key decode -/

/-- A mask is one-hot when it is one of the four single bits (R10). -/
theorem oneHot_iff_exists_shift : ∀ m : BitVec 4, oneHot m = true ↔ ∃ k : Fin 4, m = 1#4 <<< k.val := by decide

theorem maskIndex_shift : ∀ k : Fin 4, maskIndex (1#4 <<< k.val) = k := by decide

/-- Settles O26: a single bit is a one-hot mask with its own position as index, and no other mask is one-hot. -/
theorem keyDecodeNeedsOneRowAndOneColumn : Obligations.KeyDecodeNeedsOneRowAndOneColumn := by
  intro p rm cm
  constructor
  · rintro r c rfl rfl
    have row := (oneHot_iff_exists_shift (1#4 <<< r.val)).mpr ⟨r, rfl⟩
    have col := (oneHot_iff_exists_shift (1#4 <<< c.val)).mpr ⟨c, rfl⟩
    rw [keyDecode, row, col, maskIndex_shift, maskIndex_shift]
    rfl
  · intro noSingleBit
    have notOneHot : ¬ (oneHot rm && oneHot cm) = true := by
      rw [Bool.and_eq_true, oneHot_iff_exists_shift, oneHot_iff_exists_shift]
      rintro ⟨⟨r, hr⟩, c, hc⟩
      exact noSingleBit.elim (· r hr) (· c hc)
    exact if_neg notOneHot

end Sys2Proof.Machine
end

section
/-! SUPPORT. KpdStep in each of its situations (R131 to R140), and what a whole cycle leaves in the keypad's registers. -/

namespace Sys2Proof.Machine

/-! ## KpdStep by its situation -/

theorem keyFinalizes_iff (S : State) : keyFinalizes S = true ↔ kpEn S = true ∧ S.kpState = .rowsArmed ∧
    (input S).kpRow = S.rowPrev ∧ tick S = true ∧ S.dbCount = 1 ∧ (input S).kpRow = 0 := by
  simp [keyFinalizes, and_assoc]

/-- A column edge, by its masks. -/
theorem colEdge_iff (S : State) : colEdge S = true ↔ (input S).kpCol &&& ~~~S.colPrev ≠ 0 := by simp [colEdge]

theorem keyCaptured_iff (S : State) : keyCaptured S = true ↔ kpEn S = true ∧ S.kpState = .colsArmed ∧
    (input S).kpCol &&& ~~~S.colPrev ≠ 0 ∧ flagSet S .keyReady = false ∧
    ∃ code, keyDecode S.params (input S).kpRow (input S).kpCol = some code := by
  simp [keyCaptured, colEdge_iff, and_assoc, Option.isSome_iff_exists]

/-- Only ROWS_ARMED finalizes. -/
theorem keyFinalizes_of_ne_rowsArmed {S : State} (st : S.kpState ≠ .rowsArmed) : keyFinalizes S = false := by
  simp [keyFinalizes, st]

/-- Only COLS_ARMED overruns. -/
theorem keyOverruns_of_ne_colsArmed {S : State} (st : S.kpState ≠ .colsArmed) : keyOverruns S = false := by
  simp [keyOverruns, st]

theorem kpdStep_of_off {S : State} (a : State) (off : kpEn S = false) : kpdStep S a = kpdDisable a := by
  simp [kpdStep, off]

theorem kpdStep_of_disabled {S : State} (a : State) (en : kpEn S = true) (st : S.kpState = .disabled) :
    kpdStep S a = { a with kpState := .colsArmed } := by
  simp [kpdStep, en, st]

theorem kpdStep_of_colsArmed {S : State} (a : State) (en : kpEn S = true) (st : S.kpState = .colsArmed) :
    kpdStep S a = kpdScan S a := by
  simp [kpdStep, en, st]

theorem kpdStep_of_rowsArmed {S : State} (a : State) (en : kpEn S = true) (st : S.kpState = .rowsArmed) :
    kpdStep S a = kpdDebounce S a := by
  simp [kpdStep, en, st]

/-- A valid capture latches the code of the two masks (R134). -/
theorem kpdStep_of_captures {S : State} (a : State) {code : BitVec 4} (cap : keyCaptured S = true)
    (dec : keyDecode S.params (input S).kpRow (input S).kpCol = some code) : kpdStep S a = captureKey code S a := by
  obtain ⟨en, st, edge, clear, -⟩ := (keyCaptured_iff S).mp cap
  simp [kpdStep_of_colsArmed a en st, kpdScan, (colEdge_iff S).mpr edge, clear, dec]

/-- A column edge while a key is pending raises KEY_OVR alone (R136). -/
theorem kpdStep_of_overruns {S : State} (a : State) (ov : keyOverruns S = true) :
    kpdStep S a = raise .keyOverrun a := by
  obtain ⟨en, st, edge, pending⟩ := (keyOverruns_iff S).mp ov
  simp [kpdStep_of_colsArmed a en st, kpdScan, (colEdge_iff S).mpr edge, pending]

/-- COLS_ARMED without a capture waits: at most an overrun is raised (R133, R135, R136). -/
theorem kpdStep_of_waits {S : State} (a : State) (en : kpEn S = true) (st : S.kpState = .colsArmed)
    (no : keyCaptured S = false) : kpdStep S a = a ∨ kpdStep S a = raise .keyOverrun a := by
  rw [kpdStep_of_colsArmed a en st]
  unfold kpdScan
  split
  case isTrue edge =>
    split
    case isTrue => exact .inr rfl
    case isFalse clear =>
      split
      case h_1 code dec => simp [keyCaptured, en, st, edge, clear, dec] at no
      case h_2 => exact .inl rfl
  case isFalse => exact .inl rfl

theorem kpdStep_of_finalizes {S : State} (a : State) (fin : keyFinalizes S = true) : kpdStep S a = kpdFinalize a := by
  obtain ⟨en, st, same, ticked, last, clear⟩ := (keyFinalizes_iff S).mp fin
  simp [kpdStep_of_rowsArmed a en st, kpdDebounce, ← same, ticked, last, clear]

/-- The debounce timer after a cycle of ROWS_ARMED that does not finalize (R137, R138, R140). -/
def debounceCount (S : State) : Word :=
  if (input S).kpRow ≠ S.rowPrev then load S.dbPeriod
  else if tick S = true ∧ S.dbCount = 1 then load S.dbPeriod
  else if tick S = true then S.dbCount - 1 else S.dbCount

/-- ROWS_ARMED without a finalize moves the debounce timer, and nothing else. -/
theorem kpdStep_of_debounces {S : State} (en : kpEn S = true) (st : S.kpState = .rowsArmed)
    (no : keyFinalizes S = false) : kpdStep S S = { S with dbCount := debounceCount S } := by
  rw [kpdStep_of_rowsArmed S en st, kpdDebounce, debounceCount]
  by_cases same : (input S).kpRow = S.rowPrev
  · by_cases ticked : tick S = true
    · by_cases last : S.dbCount = 1#32
      · have held : (input S).kpRow ≠ 0#4 := fun clear => by
          simp [(keyFinalizes_iff S).mpr ⟨en, st, same, ticked, last, clear⟩] at no
        simp [← same, ticked, last, held]
      · simp [same, ticked, last]
    · simp [same, ticked]
  · simp [same]

/-- KPD is in ROWS_ARMED after a capture, and after a cycle of ROWS_ARMED without a finalize or a disable (R145). -/
theorem kpdStep_rowsArmed_iff (S : State) : (kpdStep S S).kpState = .rowsArmed ↔
    keyCaptured S = true ∨ (S.kpState = .rowsArmed ∧ keyFinalizes S = false ∧ kpEn S = true) := by
  cases en : kpEn S with
  | false => simp [kpdStep_of_off S en, keyCaptured, en]
  | true =>
    cases st : S.kpState with
    | disabled => simp [kpdStep_of_disabled S en st, keyCaptured, st]
    | colsArmed =>
      cases cap : keyCaptured S with
      | true =>
        obtain ⟨-, -, -, -, code, dec⟩ := (keyCaptured_iff S).mp cap
        simp [kpdStep_of_captures S cap dec]
      | false => rcases kpdStep_of_waits S en st cap with h | h <;> simp [h, st]
    | rowsArmed =>
      cases fin : keyFinalizes S with
      | true => simp [kpdStep_of_finalizes S fin, keyCaptured, st]
      | false => simp [kpdStep_of_debounces en st fin, st]

/-! ## The keypad's registers over a cycle -/

/-- What a cycle without reset leaves in KPD's registers: the result of KpdStep on the start state, a host clear of KEY_READY,
and KEY_OVR, which no other part raises (R51). -/
structure KeypadStep (s t : State) : Prop where
  kpState : t.kpState = (kpdStep s s).kpState
  dbCount : t.dbCount = (kpdStep s s).dbCount
  keyCode : t.keyCode = (kpdStep s s).keyCode
  keyRow : t.keyRow = (kpdStep s s).keyRow
  keyCol : t.keyCol = (kpdStep s s).keyCol
  keyReady : flagSet t .keyReady = (keyFinalizes s || (flagSet s .keyReady && !hostClearsFlag s .keyReady))
  overrun_set : keyOverruns s = true → t.sticky.getLsbD 0 = true
  overrun_cause : t.sticky.getLsbD 0 = true → s.sticky.getLsbD 0 = true ∨ keyOverruns s = true
  colPrev : t.colPrev = (input s).kpCol
  rowPrev : t.rowPrev = (input s).kpRow

/-- The host's part writes none of KPD's registers, so KpdStep finds them as the cycle began. -/
theorem step_keypad {s t : State} (hr : (input s).rst = false) (h : step s = .next t) : KeypadStep s t := by
  have ready := step_flagSet hr h .keyReady
  obtain ⟨b, hb, he, rfl⟩ := step_cases hr h
  refine
    { kpState := (finishCycle_kpState s b).trans (kpdStep_kpState_congr s (HostEffect_kpState he :))
      dbCount := (finishCycle_dbCount s b).trans (kpdStep_dbCount_congr s (HostEffect_dbCount he :))
      keyCode := (finishCycle_keyCode s b).trans (kpdStep_keyCode_congr s (HostEffect_keyCode he :))
      keyRow := (finishCycle_keyRow s b).trans (kpdStep_keyRow_congr s (HostEffect_keyRow he :))
      keyCol := (finishCycle_keyCol s b).trans (kpdStep_keyCol_congr s (HostEffect_keyCol he :))
      keyReady := ready
      overrun_set := fun ov => ?_
      overrun_cause := fun set => ?_
      colPrev := finishCycle_colPrev s b
      rowPrev := finishCycle_rowPrev s b }
  · have kpd : (kpdStep s b).sticky.getLsbD 0 = true := by
      rw [kpdStep_of_overruns b ov]
      exact (sticky_or_bit rfl 0).mpr (.inr rfl)
    rw [finishCycle_sticky]
    rcases (tagStep_effect s (kpdStep s b)).errors with ⟨same, -⟩ | ⟨-, c, tagRaised, -⟩
    · rwa [same]
    · exact (sticky_or_bit tagRaised 0).mpr (.inl kpd)
  · rcases finishCycle_bit_cause s b set with kept | ⟨-, ov⟩ | ⟨absurdBit, -⟩
    · exact .inl (by simpa using (hostPhase_run hb).errors.bit_cause kept)
    · exact .inr ov
    · cases absurdBit

theorem exists_keypadStep {s : State} (hr : (input s).rst = false) : ∃ t, step s = .next t ∧ KeypadStep s t := by
  obtain ⟨b, hb, -⟩ := hostPhase_effect s
  exact ⟨_, step_of_hostPhase hr hb, step_keypad hr (step_of_hostPhase hr hb)⟩

theorem KeypadStep.keyRegs {s t : State} (k : KeypadStep s t) : keyRegs t = keyRegs (kpdStep s s) := by
  simp [Machine.keyRegs, k.keyCode, k.keyRow, k.keyCol]

theorem KeypadStep.overrun_kept {s t : State} (k : KeypadStep s t) (no : keyOverruns s = false)
    (set : t.sticky.getLsbD 0 = true) : s.sticky.getLsbD 0 = true := by
  simpa [no] using k.overrun_cause set

/-- Without a finalize, KEY_READY changes by a host clear alone (R245). -/
theorem KeypadStep.keyReady_cleared {s t : State} (k : KeypadStep s t) (no : keyFinalizes s = false) :
    flagSet t .keyReady = (flagSet s .keyReady && !hostClearsFlag s .keyReady) := by
  simpa [no] using k.keyReady

@[simp] theorem outputs_senseMode (s : State) : (outputs s).senseMode = (s.kpState == .rowsArmed) := rfl

end Sys2Proof.Machine
end

section
/-! PROOFS. The obligations on a single cycle of the keypad. -/

namespace Sys2Proof.Machine

/-- Settles O33: KPD is in ROWS_ARMED next exactly after a capture, or while a debounce cycle goes on. -/
theorem senseModeFollowsTheDebounceCycle : Obligations.SenseModeFollowsTheDebounceCycle := by
  intro s t hr h
  refine ⟨by simp, ?_⟩
  simpa [(step_keypad hr h).kpState] using kpdStep_rowsArmed_iff s

/-- Settles O23: a disabled KPD takes its disabled state, and neither finalizes nor overruns. -/
theorem disabledKeypadIsHeld : Obligations.DisabledKeypadIsHeld := by
  intro s hr off
  obtain ⟨t, h, k⟩ := exists_keypadStep hr
  have eq := kpdStep_of_off s off
  have state : t.kpState = .disabled := by simp [k.kpState, eq]
  refine ⟨t, h, state, by simp [k.dbCount, eq], by rw [k.keyRegs, eq]; rfl,
    k.keyReady_cleared (by simp [keyFinalizes, off]), k.overrun_kept (by simp [keyOverruns, off]), by simp [state]⟩

/-- Settles O24: the cycle that arms the columns samples them, so a column held from it on does not rise. -/
theorem enabledKeypadArmsItsColumns : Obligations.EnabledKeypadArmsItsColumns := by
  intro s hr en st
  obtain ⟨t, h, k⟩ := exists_keypadStep hr
  have eq := kpdStep_of_disabled s en st
  refine ⟨t, h, by simp [k.kpState, eq], by rw [k.keyRegs, eq]; rfl, by simp [k.dbCount, eq], fun held => ?_⟩
  simp [colEdge, k.colPrev, held]

/-- Settles O25: the capture is KpdStep's whole effect. -/
theorem validColumnEdgeCapturesTheKey : Obligations.ValidColumnEdgeCapturesTheKey := by
  intro s code hr en st edge clear dec
  obtain ⟨t, h, k⟩ := exists_keypadStep hr
  have eq := kpdStep_of_captures s ((keyCaptured_iff s).mpr ⟨en, st, edge, clear, code, dec⟩) dec
  have state : t.kpState = .rowsArmed := by simp [k.kpState, eq]
  have ready := k.keyReady_cleared (keyFinalizes_of_ne_rowsArmed (by simp [st]))
  exact ⟨t, h, by simp [k.keyCode, eq], by simp [k.keyRow, eq], by simp [k.keyCol, eq], state,
    by simp [k.dbCount, eq, load], by simp [ready, clear], k.overrun_kept (by simp [keyOverruns, clear]), by simp [state]⟩

/-- Settles O27: none of the three situations is a capture, so KPD waits, and it overruns in the third alone. -/
theorem unusableColumnEdgeIsDropped : Obligations.UnusableColumnEdgeIsDropped := by
  intro s hr en st rise unusable
  obtain ⟨t, h, k⟩ := exists_keypadStep hr
  have noCapture : keyCaptured s = false := by
    rw [← Bool.not_eq_true, keyCaptured_iff]
    rintro ⟨-, -, edge, clear, code, dec⟩
    rcases unusable with none | pending | undecoded
    · exact edge none
    · simp [clear] at pending
    · simp [dec] at undecoded
  have waits : keyRegs t = keyRegs s ∧ t.kpState = .colsArmed ∧ t.dbCount = s.dbCount := by
    rw [k.keyRegs, k.kpState, k.dbCount]
    rcases kpdStep_of_waits s en st noCapture with eq | eq
    · rw [eq]
      exact ⟨rfl, st, rfl⟩
    · rw [eq]
      exact ⟨rfl, st, rfl⟩
  obtain ⟨key, state, count⟩ := waits
  refine ⟨t, h, key, state, count, k.keyReady_cleared (keyFinalizes_of_ne_rowsArmed (by simp [st])), by simp [state],
    fun edge pending => k.overrun_set ((keyOverruns_iff s).mpr ⟨en, st, edge, pending⟩), fun noOverrun => ?_⟩
  refine k.overrun_kept ?_
  rw [← Bool.not_eq_true, keyOverruns_iff]
  rintro ⟨-, -, edge, pending⟩
  exact noOverrun.elim edge (by simp [pending])

/-- Settles O28: KpdStep moves the debounce timer alone. -/
theorem debounceTimerRestartsAndCounts : Obligations.DebounceTimerRestartsAndCounts := by
  intro s hr en st no _
  obtain ⟨t, h, k⟩ := exists_keypadStep hr
  have eq := kpdStep_of_debounces en st no
  exact ⟨t, h, by rw [k.kpState, eq]; exact st, by rw [k.keyRegs, eq]; rfl, k.keyReady_cleared no,
    k.overrun_kept (keyOverruns_of_ne_colsArmed (by simp [st])), by rw [k.dbCount, eq]; rfl⟩

/-- Settles O29: the finalize is KpdStep's whole effect, and its KEY_READY wins over a host clear. -/
theorem clearRowsAtExpiryFinalizeTheKey : Obligations.ClearRowsAtExpiryFinalizeTheKey := by
  intro s hr en st same ticked last clear
  obtain ⟨t, h, k⟩ := exists_keypadStep hr
  have fin := (keyFinalizes_iff s).mpr ⟨en, st, same, ticked, last, clear⟩
  have eq := kpdStep_of_finalizes s fin
  have state : t.kpState = .colsArmed := by simp [k.kpState, eq]
  exact ⟨t, h, by simp [k.dbCount, eq], state, by simp [k.keyReady, fin], by rw [k.keyRegs, eq]; rfl, by simp [state]⟩

end Sys2Proof.Machine
end

section
/-! PROOFS. The cycle with other column lines (R141). -/

namespace Sys2Proof.Machine

/-! ## The host's part reads no pin but the bus pins -/

/-- The state with the pins of the present and the coming cycles replaced. -/
def setInputs (l : List Inputs) (s : State) : State := { s with inputs := l }

theorem writeLedger_setInputs (l : List Inputs) (k : Fin 15) (v : Word) (b : State) :
    writeLedger k v (setInputs l b) = setInputs l (writeLedger k v b) :=
  (apply_ite (setInputs l) (fccBusy b = true) (busError .fccBusyWrite b)
    (respondWrite { b with ledger := b.ledger.set k v })).symm

theorem execWrCmd_setInputs (l : List Inputs) {v : Word} {b h : State} (he : execWrCmd v b = .next h) :
    execWrCmd v (setInputs l b) = .next (setInputs l h) := by
  have refusedOr (start : State) := apply_ite (setInputs l) (fccBusy b = true)
    (raise (.cmd .fccBusy) (respondWrite b)) start
  unfold execWrCmd at he ⊢
  split at he
  all_goals obtain rfl := Host.Outcome.next.inj he
  case h_3 =>
    exact congrArg _ (apply_ite (setInputs l) ((tagEn b && b.tagState == .present) = true)
      { respondWrite b with tagState := .polling } (respondWrite b)).symm
  case h_4 => exact congrArg _ (refusedOr (startErase (respondWrite b))).symm
  case h_5 => exact congrArg _ (refusedOr (startLoad (respondWrite b))).symm
  all_goals rfl

/-- The meaning of a bus access neither reads nor writes the pins. -/
theorem exec_bus_setInputs (l : List Inputs) {i : Instr} {d : BitVec 11} {v : Word} (hi : encode i = .bus d v)
    {b h : State} (he : exec i b = .next h) : exec i (setInputs l b) = .next (setInputs l h) := by
  cases i
  case wrCmd w => exact execWrCmd_setInputs l he
  all_goals first
    | (cases he; rfl)
    | (cases he; exact congrArg _ (writeLedger_setInputs l _ _ b))
    | cases hi

/-- With other pins but the same access, the host's part is the same. -/
theorem hostPhase_withInput {f : Inputs → Inputs} {s b : State} (bus : fetch (withInput f s) = fetch s)
    (h : hostPhase s = .next b) :
    hostPhase (withInput f s) = .next (setInputs (withInput f s).inputs b) := by
  unfold hostPhase at h ⊢
  rw [bus]
  cases hf : fetch s with
  | none =>
    simp only [hf] at h
    exact Host.Outcome.next.inj h ▸ rfl
  | refused c =>
    simp only [hf] at h
    exact Host.Outcome.next.inj h ▸ rfl
  | run i =>
    simp only [hf] at h
    obtain ⟨d, v, hi⟩ := decodeBus_ok_format (fetch_eq_run_iff.mp hf).2
    exact exec_bus_setInputs _ hi h

/-! ## The columns -/

/-- The state in whose present cycle the column lines are `col`. -/
def withColumns (col : BitVec 4) (s : State) : State := withInput (fun i => { i with kpCol := col }) s

/-- ROWS_ARMED does not read the columns (R141). -/
theorem kpdStep_withColumns {s : State} (col : BitVec 4) (a : State) (en : kpEn s = true) (st : s.kpState = .rowsArmed) :
    kpdStep (withColumns col s) a = kpdStep s a := by
  rw [kpdStep_of_rowsArmed a en st, kpdStep_of_rowsArmed (S := withColumns col s) a en st]
  rfl

theorem tagStep_withColumns (col : BitVec 4) (s a : State) : tagStep (withColumns col s) a = tagStep s a := rfl

theorem fccStep_withColumns (col : BitVec 4) (s a : State) : fccStep (withColumns col s) a = fccStep s a := rfl

theorem dispStep_withColumns (col : BitVec 4) (s a : State) : dispStep (withColumns col s) a = dispStep s a := rfl

/-- The sub-units of a cycle of ROWS_ARMED leave the same state for any columns, but for the sample. -/
theorem finishCycle_withColumns {s : State} (col : BitVec 4) (a : State) (en : kpEn s = true)
    (st : s.kpState = .rowsArmed) : finishCycle (withColumns col s) a = { finishCycle s a with colPrev := col } := by
  rw [finishCycle, subUnits, kpdStep_withColumns col a en st, tagStep_withColumns, fccStep_withColumns, dispStep_withColumns]
  rfl

/-- Settles O30: neither the host's part nor a sub-unit reads the columns; the end of the cycle samples them. -/
theorem columnsAreIgnoredWhileRowsArmed : Obligations.ColumnsAreIgnoredWhileRowsArmed := by
  intro s t col hr en st h
  obtain ⟨b, hb, -, rfl⟩ := step_cases hr h
  have host : hostPhase (withColumns col s) = .next (setInputs (withColumns col s).inputs b) :=
    hostPhase_withInput rfl hb
  calc step (withColumns col s)
    _ = .next (finishCycle (withColumns col s) (setInputs (withColumns col s).inputs b)) := step_of_hostPhase hr host
    _ = .next (finishCycle (withColumns col s) b) := congrArg _ (finishCycle_congr _ rfl)
    _ = .next { finishCycle s b with colPrev := col } := congrArg _ (finishCycle_withColumns col b en st)

end Sys2Proof.Machine
end

section
/-! PROOFS. The keypad over any number of cycles (R142, R144). -/

namespace Sys2Proof.Machine

/-! ## Runs -/

/-- A run of one cycle more is a cycle and then the run. -/
theorem run_succ_iff {n : Nat} {s t : State} : Host.Core.run Sys2Proof.core (n + 1) s = .next t ↔
    ∃ u, step s = .next u ∧ Host.Core.run Sys2Proof.core n u = .next t := by
  have core : Host.Core.step Sys2Proof.core s = step s := rfl
  cases hs : step s <;> simp [Host.Core.run, core, hs]

/-- What holds at the start, and is kept by every cycle that meets the run's premise `Q`, holds at the end of the run. -/
theorem run_induction {P : Nat → State → Prop} {Q : State → Prop} {n : Nat} {s t : State} (start : P 0 s)
    (kept : ∀ m u v, m < n → P m u → Q u → step u = .next v → P (m + 1) v)
    (premise : ∀ m, m < n → ∀ u, Host.Core.run Sys2Proof.core m s = .next u → Q u)
    (h : Host.Core.run Sys2Proof.core n s = .next t) : P n t := by
  induction n generalizing s P with
  | zero =>
    obtain rfl := Host.Outcome.next.inj h
    exact start
  | succ n ih =>
    obtain ⟨u, first, rest⟩ := run_succ_iff.mp h
    have next : P 1 u := kept 0 s u n.succ_pos start (premise 0 n.succ_pos s rfl) first
    exact ih (P := fun m => P (m + 1)) next (fun m v w hm => kept (m + 1) v w (Nat.succ_lt_succ hm))
      (fun m hm v hv => premise (m + 1) (Nat.succ_lt_succ hm) v (run_succ_iff.mpr ⟨u, first, hv⟩)) rest

/-! ## One cycle of a debounce cycle -/

theorem hostWritesCtrl_eq_false_iff (s : State) : hostWritesCtrl s = false ↔ ∀ w, fetch s ≠ .run (.wrCtrl w) := by
  unfold hostWritesCtrl
  split
  case h_1 w hf => simp [hf]
  case h_2 hn => simpa using hn

/-- CTRL keeps its bits in a cycle in which the host does not write it (R243). -/
theorem step_ctrl {s t : State} (hr : (input s).rst = false) (h : step s = .next t) (no : hostWritesCtrl s = false) :
    t.ctrl = s.ctrl := by
  obtain ⟨b, hb, -, rfl⟩ := step_cases hr h
  exact (finishCycle_ctrl s b).trans ((hostPhase_run hb).ctrl_kept ((hostWritesCtrl_eq_false_iff s).mp no))

/-- A debounce cycle is going on: KPD is enabled and in ROWS_ARMED, no key is pending, and KEY holds `key`. -/
structure Debouncing (key : BitVec 12) (s : State) : Prop where
  enabled : kpEn s = true
  rows : s.kpState = .rowsArmed
  clear : flagSet s .keyReady = false
  key : keyRegs s = key

/-- A cycle that does not finalize moves the debounce timer and leaves the debounce cycle going on. -/
theorem Debouncing.goes_on {key : BitVec 12} {s t : State} (d : Debouncing key s) (hr : (input s).rst = false)
    (noCtrl : hostWritesCtrl s = false) (no : keyFinalizes s = false) (h : step s = .next t) :
    Debouncing key t ∧ t.dbCount = debounceCount s := by
  have k := step_keypad hr h
  have eq := kpdStep_of_debounces d.enabled d.rows no
  refine ⟨⟨?_, ?_, ?_, ?_⟩, by rw [k.dbCount, eq]⟩
  · rw [kpEn, step_ctrl hr h noCtrl]
    exact d.enabled
  · rw [k.kpState, eq]
    exact d.rows
  · rw [k.keyReady_cleared no, d.clear, Bool.false_and]
  · rw [k.keyRegs, eq]
    exact d.key

/-! ## A stuck key -/

/-- An asserted row at the tick keeps the key from being finalized (R138). -/
theorem keyFinalizes_of_row_asserted {s : State} (row : tick s = true → (input s).kpRow ≠ 0) :
    keyFinalizes s = false := by
  rw [← Bool.not_eq_true, keyFinalizes_iff]
  rintro ⟨-, -, -, ticked, -, clear⟩
  exact row ticked clear

/-- Settles O31, by induction on the cycles: with a row asserted at every tick none of them finalizes. -/
theorem stuckKeyNeverFinalizes : Obligations.StuckKeyNeverFinalizes := by
  intro n s t en rows clear premise h
  have start : Debouncing (keyRegs s) s := ⟨en, rows, clear, rfl⟩
  have final := run_induction (P := fun _ => Debouncing (keyRegs s)) start
    (fun m u v _ d ⟨hr, row, noCtrl⟩ hv => (d.goes_on hr noCtrl (keyFinalizes_of_row_asserted row) hv).1) premise h
  exact ⟨final.rows, final.clear, final.key⟩

/-! ## A released key -/

/-- With TICK_CYCLES = 1 every cycle is a tick (R295). -/
structure TicksAlways (s : State) : Prop where
  period : s.params.tickCycles = 1
  presc : s.presc = 0

theorem TicksAlways.tick {s : State} (a : TicksAlways s) : tick s = true := by
  have pred : s.params.tickPred = 0 := Nat.succ.inj a.period
  simp [Machine.tick, a.presc, pred]

theorem TicksAlways.kept {s t : State} (a : TicksAlways s) (hr : (input s).rst = false) (h : step s = .next t) :
    TicksAlways t := by
  obtain ⟨b, -, he, rfl⟩ := step_cases hr h
  have params : b.params = s.params := (HostEffect_params he :)
  exact ⟨by rw [finishCycle_params, params, a.period], by rw [finishCycle_presc, prescNext, a.tick]; rfl⟩

/-- A debounce cycle whose rows are clear, `c` ticks before its end, with a tick in every cycle. -/
structure Releasing (c : Nat) (s : State) : Prop where
  debouncing : Debouncing (keyRegs s) s
  ticks : TicksAlways s
  rowPrev : s.rowPrev = 0
  count : s.dbCount.toNat = c

theorem Releasing.goes_on {c : Nat} {s t : State} (r : Releasing (c + 2) s) (hr : (input s).rst = false)
    (row : (input s).kpRow = 0) (noCtrl : hostWritesCtrl s = false) (h : step s = .next t) : Releasing (c + 1) t := by
  have more : s.dbCount ≠ 1#32 := fun last => by simpa [last] using r.count
  have no : keyFinalizes s = false := by simp [keyFinalizes, more]
  obtain ⟨d, count⟩ := r.debouncing.goes_on hr noCtrl no h
  have counted : debounceCount s = s.dbCount - 1 := by simp [debounceCount, row, r.rowPrev, r.ticks.tick, more]
  refine ⟨⟨d.enabled, d.rows, d.clear, rfl⟩, r.ticks.kept hr h, (step_keypad hr h).rowPrev.trans row, ?_⟩
  have before := r.count
  rw [count, counted]
  bv_omega

theorem Releasing.ends {s t : State} (r : Releasing 1 s) (hr : (input s).rst = false) (row : (input s).kpRow = 0)
    (h : step s = .next t) : t.kpState = .colsArmed ∧ flagSet t .keyReady = true := by
  have k := step_keypad hr h
  have last : s.dbCount = 1 := BitVec.eq_of_toNat_eq r.count
  have fin : keyFinalizes s = true := (keyFinalizes_iff s).mpr
    ⟨r.debouncing.enabled, r.debouncing.rows, row.trans r.rowPrev.symm, r.ticks.tick, last, row⟩
  exact ⟨by simp [k.kpState, kpdStep_of_finalizes s fin], by simp [k.keyReady, fin]⟩

/-- A key whose rows are clear, `c` ticks before it is finalized: its debounce cycle runs, or is over. -/
inductive Released : Nat → State → Prop
  | running {c : Nat} {s : State} (r : Releasing (c + 1) s) : Released (c + 1) s
  | finalized {s : State} (cols : s.kpState = .colsArmed) (ready : flagSet s .keyReady = true) : Released 0 s

theorem Released.next {c : Nat} {s t : State} (k : Released (c + 1) s) (hr : (input s).rst = false)
    (row : (input s).kpRow = 0) (noCtrl : hostWritesCtrl s = false) (h : step s = .next t) : Released c t := by
  obtain ⟨r⟩ := k
  cases c with
  | zero =>
    obtain ⟨cols, ready⟩ := r.ends hr row h
    exact .finalized cols ready
  | succ c => exact .running (r.goes_on hr row noCtrl h)

/-- Settles O32, by induction on the cycles: each but the last counts down, and the last finalizes. -/
theorem keyReadyComesAtTheLastTick : Obligations.KeyReadyComesAtTheLastTick := by
  intro n s t period presc en rows clear rowPrev le running premise h
  have start : Released s.dbCount.toNat s := by
    obtain ⟨c, count⟩ := Nat.exists_eq_succ_of_ne_zero fun none => running (BitVec.eq_of_toNat_eq none)
    rw [count]
    exact .running ⟨⟨en, rows, clear, rfl⟩, ⟨period, presc⟩, rowPrev, count⟩
  have released : Released (s.dbCount.toNat - n) t :=
    run_induction (P := fun m u => Released (s.dbCount.toNat - m) u) start (fun m u v hm k ⟨hr, row, noCtrl⟩ hv => by
      have left : s.dbCount.toNat - m = s.dbCount.toNat - (m + 1) + 1 := by omega
      rw [left] at k
      exact k.next hr row noCtrl hv) premise h
  generalize left : s.dbCount.toNat - n = c at released
  cases released with
  | running r => exact ⟨fun _ => ⟨r.debouncing.rows, r.debouncing.clear⟩, by omega⟩
  | finalized cols ready => exact ⟨by omega, fun _ => ⟨cols, ready⟩⟩

end Sys2Proof.Machine
end

section
/-! SUPPORT. The five commands (R250 to R253): what each does, and the host's part of a cycle that carries one. -/

namespace Sys2Proof.Machine

/-! ## The commands' meanings, and O17 -/

/-- The bit of a flag's mask. -/
theorem flagMask_getLsbD (f : Flag) (b : Nat) : (flagMask f).getLsbD b = decide (b = flagIndex f) := by
  have mask : flagMask f = BitVec.twoPow 5 (flagIndex f) := by cases f <;> rfl
  have lt : flagIndex f < 5 := by cases f <;> decide
  rw [mask, BitVec.getLsbD_twoPow]
  simp [lt, eq_comm]

/-- SESSION_CLOSE ends an open session of an enabled TAG (R183). -/
theorem exec_sessionClose_of_present {s : State} (en : tagEn s = true) (st : s.tagState = .present) :
    exec .sessionClose s = .next { s with tagState := .polling } := by
  simp [exec, execSessionClose, en, st]

theorem exec_sessionClose_of_not_present {s : State} (no : tagEn s = false ∨ s.tagState ≠ .present) :
    exec .sessionClose s = .next s := by
  rcases no with off | st
  · simp [exec, execSessionClose, off]
  · simp [exec, execSessionClose, st]

theorem exec_commit_of_idle {s : State} (idle : s.fccState = .idle) : exec .commit s = .next (startErase s) := by
  simp [exec, execCommit, fccBusy, idle]

theorem exec_load_of_idle {s : State} (idle : s.fccState = .idle) : exec .load s = .next (startLoad s) := by
  simp [exec, execLoad, fccBusy, idle]

/-- COMMIT and LOAD while FCC is busy are refused (R217). -/
theorem exec_commit_of_busy {s : State} (busy : s.fccState ≠ .idle) :
    exec .commit s = .next (raise (.cmd .fccBusy) s) := by
  simp [exec, execCommit, fccBusy, busy]

@[inherit_doc exec_commit_of_busy]
theorem exec_load_of_busy {s : State} (busy : s.fccState ≠ .idle) :
    exec .load s = .next (raise (.cmd .fccBusy) s) := by
  simp [exec, execLoad, fccBusy, busy]

/-- Settles O17: each command's meaning, by the guard it has. -/
theorem commandsHaveTheirEffect : Obligations.CommandsHaveTheirEffect := by
  intro s
  refine ⟨rfl, ⟨s.flags ||| flagMask .swctx, rfl, fun b _ => ?_⟩, exec_sessionClose_of_present,
    exec_sessionClose_of_not_present, exec_commit_of_idle, exec_load_of_idle,
    fun busy => ⟨exec_commit_of_busy busy, exec_load_of_busy busy⟩⟩
  rw [BitVec.getLsbD_or, flagMask_getLsbD]
  rfl

/-! ## A cycle that carries a command -/

/-- The command of a cycle is that of its CMD write (R248). -/
theorem hostCommand_eq_some_iff {s : State} {c : Command} :
    hostCommand s = some c ↔ ∃ v, fetch s = .run (.wrCmd v) ∧ decodeCmd v = .ok c := by
  unfold hostCommand
  split
  case h_1 w access => cases hd : decodeCmd w <;> simp [access, hd, Except.toOption]
  case h_2 no => simpa using fun v access => absurd access (no v)

/-- A CMD write runs its command over its own answer (R248). -/
theorem execWrCmd_of_command {v : Word} {c : Command} (cmd : decodeCmd v = .ok c) (b : State) :
    execWrCmd v b = exec c.instr (respondWrite b) := by
  cases c <;> simp [execWrCmd, cmd, Command.instr, exec]

theorem hostPhase_of_command {s : State} {c : Command} (cmd : hostCommand s = some c) :
    hostPhase s = exec c.instr (respondWrite (beginCycle s)) := by
  obtain ⟨v, access, ok⟩ := hostCommand_eq_some_iff.mp cmd
  exact (hostPhase_of_run access).trans (execWrCmd_of_command ok (beginCycle s))

/-- A cycle that carries a command clears no flag. -/
theorem hostClearsFlag_of_command {s : State} {c : Command} (cmd : hostCommand s = some c) (f : Flag) :
    hostClearsFlag s f = false := by
  obtain ⟨v, access, -⟩ := hostCommand_eq_some_iff.mp cmd
  simp [hostClearsFlag, access]

/-- The host ends an open session in this cycle (R183). -/
def closesSession (s : State) : Bool := hostCommand s == some .sessionClose && tagEn s && s.tagState == .present

theorem closesSession_iff (s : State) : closesSession s = true ↔
    hostCommand s = some .sessionClose ∧ tagEn s = true ∧ s.tagState = .present := by
  simp [closesSession, and_assoc]

/-- The host's part writes `tag_state` by ending a session alone (R183). -/
theorem HostRun.tagState_eq {s b : State} (run : HostRun s b) (no : closesSession s = false) : b.tagState = s.tagState := by
  cases run
  case close v access cmd en present =>
    simp [(closesSession_iff s).mpr ⟨hostCommand_eq_some_iff.mpr ⟨v, access, cmd⟩, en, present⟩] at no
  all_goals rfl

theorem hostPhase_of_closesSession {s : State} (close : closesSession s = true) :
    hostPhase s = .next { respondWrite (beginCycle s) with tagState := .polling } := by
  obtain ⟨cmd, en, present⟩ := (closesSession_iff s).mp close
  exact (hostPhase_of_command cmd).trans (exec_sessionClose_of_present (s := respondWrite (beginCycle s)) en present)

/-- Only an open session is closed. -/
theorem closesSession_of_ne_present {s : State} (st : s.tagState ≠ .present) : closesSession s = false := by
  simp [closesSession, st]

end Sys2Proof.Machine
end

section
/-! SUPPORT. TagStep in each of its situations (R171 to R185), and what a whole cycle leaves in the reader's registers. -/

namespace Sys2Proof.Machine

/-! ## The output pins of the reader and flash ports (R45) -/

@[simp] theorem outputs_rdReqValid (s : State) : (outputs s).rdReqValid = s.rdIssue := rfl
@[simp] theorem outputs_rdReqOp (s : State) : (outputs s).rdReqOp = rdOpCode s.rdOp := rfl
@[simp] theorem outputs_rdReqBlock (s : State) : (outputs s).rdReqBlock = s.params.tagBlock := rfl
@[simp] theorem outputs_rdReqKey (s : State) : (outputs s).rdReqKey = s.params.authKey := rfl
@[simp] theorem outputs_rdAbort (s : State) : (outputs s).rdAbort = s.rdAbortQ := rfl
@[simp] theorem outputs_flReqValid (s : State) : (outputs s).flReqValid = s.flIssue := rfl
@[simp] theorem outputs_flReqOp (s : State) : (outputs s).flReqOp = flOpCode s.flOp := rfl
@[simp] theorem outputs_flReqLen (s : State) : (outputs s).flReqLen = flReqLen s.flOp := rfl

/-- The flash address is always that of the ledger sector (R79). -/
theorem outputs_flReqAddr_toNat (s : State) : (outputs s).flReqAddr.toNat = s.params.flashSize - 4096 :=
  sectorBase_ofNat s.params

/-! ## The operands of the reader requests, by their parts -/

theorem pollStarts_iff (S : State) : pollStarts S = true ↔ tagEn S = true ∧ S.tagState = .polling ∧ S.rdPend = false ∧
    pollDue S = true := by
  simp [pollStarts, and_assoc]

theorem authStarts_iff (S : State) : authStarts S = true ↔ tagEn S = true ∧ S.tagState = .polling ∧
    (rdOutcome S = some .ok ∨ rdOutcome S = some .collision) := by
  simp [authStarts, and_assoc]

theorem uidlenOk_iff (S : State) : uidlenOk S = true ↔
    1 ≤ (input S).rspUidlen.toNat ∧ (input S).rspUidlen.toNat ≤ 10 := by
  simp [uidlenOk]

theorem readStarts_iff (S : State) : readStarts S = true ↔ tagEn S = true ∧ S.tagState = .authenticating ∧
    rdOutcome S = some .ok ∧ uidlenOk S = true := by
  simp [readStarts, and_assoc]

theorem tagPublishes_iff (S : State) : tagPublishes S = true ↔ tagEn S = true ∧ S.tagState = .reading ∧
    rdOutcome S = some .ok := by
  simp [tagPublishes, and_assoc]

/-- Only READING publishes. -/
theorem tagPublishes_of_ne_reading {S : State} (st : S.tagState ≠ .reading) : tagPublishes S = false := by
  simp [tagPublishes, st]

/-- Only AUTHENTICATING and READING fail. -/
theorem not_tagFails_of_state {S : State} (auth : S.tagState ≠ .authenticating) (read : S.tagState ≠ .reading) :
    ¬ tagFails S := by
  rintro ⟨-, -, -, ⟨st, -⟩ | ⟨st, -⟩⟩
  · exact auth st
  · exact read st

theorem not_tagFails_of_off {S : State} (off : tagEn S = false) : ¬ tagFails S := by
  rintro ⟨en, -⟩
  simp [off] at en

/-- A request with an outcome is outstanding. -/
theorem rdPend_of_outcome {S : State} {out : RdStatus} (ended : rdOutcome S = some out) : S.rdPend = true := by
  have live := rdLive_of_outcome ended
  rw [rdLive, Bool.and_eq_true] at live
  exact live.1

/-- While a request is outstanding no poll starts (R185). -/
theorem pollStarts_of_pend {S : State} (pend : S.rdPend = true) : pollStarts S = false := by
  simp [pollStarts, pend]

/-- A poll starts in POLLING only (R184, R185). -/
theorem pollStarts_of_ne_polling {S : State} (st : S.tagState ≠ .polling) : pollStarts S = false := by
  simp [pollStarts, st]

/-! ## TagStep by its situation -/

theorem tagStep_of_off {S : State} (a : State) (off : tagEn S = false) : tagStep S a = tagDisable S a := by
  simp [tagStep, off]

theorem tagStep_of_on {S : State} (a : State) (en : tagEn S = true) : tagStep S a = tagFsm S (tagCounted S a) := by
  simp [tagStep, tagCounted, en]

theorem tagStep_of_idle {S : State} (a : State) (en : tagEn S = true) (st : S.tagState = .idle) :
    tagStep S a = { tagCounted S a with tagState := .polling } := by
  simp [tagStep_of_on a en, tagFsm, st]

/-- PRESENT discards triggers (R184). -/
theorem tagStep_of_present {S : State} (a : State) (en : tagEn S = true) (st : S.tagState = .present) :
    tagStep S a = tagCounted S a := by
  simp [tagStep_of_on a en, tagFsm, st]

theorem tagStep_of_pollStarts {S : State} (a : State) (starts : pollStarts S = true) :
    tagStep S a = startPoll S (tagCounted S a) := by
  obtain ⟨en, st, noRequest, due⟩ := (pollStarts_iff S).mp starts
  simp [tagStep_of_on a en, tagFsm, st, noRequest, due]

theorem tagStep_of_authStarts {S : State} (a : State) (starts : authStarts S = true) :
    tagStep S a = startAuth S (tagCounted S a) := by
  obtain ⟨en, st, ok | collision⟩ := (authStarts_iff S).mp starts
  · simp [tagStep_of_on a en, tagFsm, st, rdPend_of_outcome ok, ok]
  · simp [tagStep_of_on a en, tagFsm, st, rdPend_of_outcome collision, collision]

/-- A poll that no tag answers ends without a trace (R177). -/
theorem tagStep_of_noTag {S : State} (a : State) (en : tagEn S = true) (st : S.tagState = .polling) {out : RdStatus}
    (ended : rdOutcome S = some out) (unanswered : out = .timeout ∨ out = .error) : tagStep S a = tagCounted S a := by
  rcases unanswered with rfl | rfl <;> simp [tagStep_of_on a en, tagFsm, st, rdPend_of_outcome ended, ended]

theorem tagStep_of_readStarts {S : State} (a : State) (starts : readStarts S = true) :
    tagStep S a = startRead S (tagCounted S a) := by
  obtain ⟨en, st, ok, legal⟩ := (readStarts_iff S).mp starts
  simp [tagStep_of_on a en, tagFsm, st, ok, legal]

/-- The cause that a failed AUTH or READ records (R179, R181). -/
def failCause : TagState → RdStatus → TagCause
  | .reading, .timeout => .readTimeout
  | .reading, _ => .readReject
  | _, .timeout => .authTimeout
  | _, _ => .authReject

/-- A failed AUTH is recorded (R179). -/
theorem tagStep_of_authFails {S : State} (a : State) (en : tagEn S = true) (st : S.tagState = .authenticating)
    {out : RdStatus} (ended : rdOutcome S = some out) (no : ¬ (out = .ok ∧ uidlenOk S = true)) :
    tagStep S a = tagFail (failCause .authenticating out) (tagCounted S a) := by
  cases out with
  | ok =>
    have illegal : uidlenOk S = false := by simpa using no
    simp [tagStep_of_on a en, tagFsm, st, ended, illegal, failCause]
  | collision => simp [tagStep_of_on a en, tagFsm, st, ended, failCause]
  | timeout => simp [tagStep_of_on a en, tagFsm, st, ended, failCause]
  | error => simp [tagStep_of_on a en, tagFsm, st, ended, failCause]

/-- A failed READ is recorded (R181). -/
theorem tagStep_of_readFails {S : State} (a : State) (en : tagEn S = true) (st : S.tagState = .reading)
    {out : RdStatus} (ended : rdOutcome S = some out) (no : out ≠ .ok) :
    tagStep S a = tagFail (failCause .reading out) (tagCounted S a) := by
  cases out with
  | ok => exact absurd rfl no
  | collision => simp [tagStep_of_on a en, tagFsm, st, ended, failCause]
  | timeout => simp [tagStep_of_on a en, tagFsm, st, ended, failCause]
  | error => simp [tagStep_of_on a en, tagFsm, st, ended, failCause]

/-- Without an outcome and without a poll TAG waits (R170). -/
theorem tagStep_of_waits {S : State} (a : State) (en : tagEn S = true) (st : S.tagState ≠ .idle)
    (waits : rdOutcome S = none) (noPoll : pollStarts S = false) : tagStep S a = tagCounted S a := by
  rw [tagStep_of_on a en]
  cases state : S.tagState
  case idle => exact absurd state st
  case polling =>
    have noTrigger : ¬ (S.rdPend = false ∧ pollDue S = true) := fun due => by
      simp [(pollStarts_iff S).mpr ⟨en, state, due⟩] at noPoll
    simp_all [tagFsm]
  all_goals simp [tagFsm, state, waits]

/-! ## The poll counter and the transceive, which every case of an enabled TAG writes over -/

/-- The poll counter after a cycle of an enabled TAG (R172, R173). -/
theorem tagPoll_pollCount {S a : State} (same : a.pollCount = S.pollCount) : (tagPoll S a).pollCount =
    if tagMode S = true then 0
    else if S.pollCount = 0 then load S.pollPeriod
    else if tick S = true then (if S.pollCount = 1 then load S.pollPeriod else S.pollCount - 1)
    else S.pollCount := by
  unfold tagPoll
  split_ifs <;> simp_all

theorem tagStep_pollCount {S : State} (a : State) (en : tagEn S = true) :
    (tagStep S a).pollCount = (tagPoll S a).pollCount := by
  simp [tagStep_of_on a en, tagCounted]

theorem tagStep_rdAbortQ {S : State} (a : State) (en : tagEn S = true) :
    (tagStep S a).rdAbortQ = (tagCounted S a).rdAbortQ := by
  simp [tagStep_of_on a en]

/-- Without an outcome the request is kept, and its deadline counts at a tick past the request cycle (R182). -/
theorem tagCounted_of_waits {S : State} (a : State) (waits : rdOutcome S = none) :
    (tagCounted S a).rdPend = a.rdPend ∧ (tagCounted S a).rdAbortQ = a.rdAbortQ ∧
    (tagCounted S a).xcvCount = if rdLive S && tick S then S.xcvCount - 1 else a.xcvCount := by
  rw [tagCounted, tagTransceive_of_none _ waits]
  split <;> simp

/-- The deadline leaves no request, whatever the TAG state (R182). -/
theorem TagEffect.timeout_ends {S a t : State} (k : TagEffect S a t) (ended : rdOutcome S = some .timeout) :
    t.rdPend = false ∧ t.xcvCount = 0 := by
  obtain ⟨pend, count, -⟩ := tagCounted_of_outcome a ended
  cases k
  case disable => exact ⟨rfl, rfl⟩
  case poll starts => simp [pollStarts_of_pend (rdPend_of_outcome ended)] at starts
  case auth starts _ => simp [authStarts, ended] at starts
  case read starts => simp [readStarts, ended] at starts
  all_goals exact ⟨pend, count⟩

/-- A request that appears on the port is the one whose operands hold. -/
theorem TagEffect.issued {S a t : State} (k : TagEffect S a t) (quiet : a.rdIssue = false) (issue : t.rdIssue = true) :
    (pollStarts S = true ∧ t.rdOp = .poll) ∨ (authStarts S = true ∧ t.rdOp = .auth) ∨
      (readStarts S = true ∧ t.rdOp = .read) := by
  cases k
  case poll starts => exact .inl ⟨starts, rfl⟩
  case auth starts _ => exact .inr (.inl ⟨starts, rfl⟩)
  case read starts => exact .inr (.inr ⟨starts, rfl⟩)
  all_goals simp [quiet] at issue

/-! ## The reader's registers over a cycle -/

/-- What a cycle without reset leaves in TAG's registers: the result of TagStep on the state with its pulses over, but for a
SESSION_CLOSE, the host's one write of them; a host clear of TAG_READY; and TAG_ERR, which no other part raises (R51). -/
structure ReaderStep (s t : State) : Prop where
  tagState : closesSession s = false → t.tagState = (tagStep s (beginCycle s)).tagState
  tagState_closed : closesSession s = true → t.tagState = .polling
  pollCount : t.pollCount = (tagStep s (beginCycle s)).pollCount
  xcvCount : t.xcvCount = (tagStep s (beginCycle s)).xcvCount
  rdPend : t.rdPend = (tagStep s (beginCycle s)).rdPend
  rdIssue : t.rdIssue = (tagStep s (beginCycle s)).rdIssue
  rdOp : t.rdOp = (tagStep s (beginCycle s)).rdOp
  rdAbortQ : t.rdAbortQ = (tagStep s (beginCycle s)).rdAbortQ
  uidSh : t.uidSh = (tagStep s (beginCycle s)).uidSh
  uidlenSh : t.uidlenSh = (tagStep s (beginCycle s)).uidlenSh
  tagCause : t.tagCause = (tagStep s (beginCycle s)).tagCause
  tagErr_kept : ¬ tagFails s → t.sticky.getLsbD 1 = true → s.sticky.getLsbD 1 = true
  tagErr_set : tagFails s → t.sticky.getLsbD 1 = true
  tagReady : flagSet t .tagReady = (tagPublishes s || (flagSet s .tagReady && !hostClearsFlag s .tagReady))
  session_kept : tagPublishes s = false → sessionRegs t = sessionRegs s
  params : t.params = s.params

/-- A failed AUTH or READ raises TAG_ERR (R179, R181). -/
theorem tagStep_tagErr_set {S : State} (a : State) (fails : tagFails S) : (tagStep S a).sticky.getLsbD 1 = true := by
  obtain ⟨en, out, ended, ⟨st, no⟩ | ⟨st, no⟩⟩ := fails
  · rw [tagStep_of_authFails a en st ended no]
    exact (sticky_or_bit rfl 1).mpr (.inr rfl)
  · rw [tagStep_of_readFails a en st ended no]
    exact (sticky_or_bit rfl 1).mpr (.inr rfl)

/-- The host's part writes none of TAG's registers but `tag_state`, so TagStep finds them as the cycle began. -/
theorem step_reader {s t : State} (hr : (input s).rst = false) (h : step s = .next t) : ReaderStep s t := by
  have ready := step_flagSet hr h .tagReady
  obtain ⟨-, -, errors, -⟩ := stickyBitsAreKeptUntilCleared s t hr h
  obtain ⟨session, -⟩ := sessionRegistersChangeOnlyByPublishing s t hr h
  obtain ⟨b, hb, he, rfl⟩ := step_cases hr h
  exact
    { tagState := fun no =>
        (finishCycle_tagState s b).trans (tagStep_tagState_congr s ((hostPhase_run hb).tagState_eq no))
      tagState_closed := fun close => by
        obtain ⟨-, en, present⟩ := (closesSession_iff s).mp close
        obtain rfl := Host.Outcome.next.inj ((hostPhase_of_closesSession close).symm.trans hb)
        simp [tagStep_of_present _ en present]
      pollCount := by
        simpa [finishCycle, subUnits] using tagStep_pollCount_congr s ((kpdStep_pollCount s b).trans (HostEffect_pollCount he))
      xcvCount := (finishCycle_xcvCount s b).trans (tagStep_xcvCount_congr s (HostEffect_xcvCount he))
      rdPend := (finishCycle_rdPend s b).trans (tagStep_rdPend_congr s (HostEffect_rdPend he))
      rdIssue := (finishCycle_rdIssue s b).trans (tagStep_rdIssue_congr s (HostEffect_rdIssue he))
      rdOp := (finishCycle_rdOp s b).trans (tagStep_rdOp_congr s (HostEffect_rdOp he))
      rdAbortQ := (finishCycle_rdAbortQ s b).trans (tagStep_rdAbortQ_congr s (HostEffect_rdAbortQ he))
      uidSh := (finishCycle_uidSh s b).trans (tagStep_uidSh_congr s (HostEffect_uidSh he))
      uidlenSh := (finishCycle_uidlenSh s b).trans (tagStep_uidlenSh_congr s (HostEffect_uidlenSh he))
      tagCause := (finishCycle_tagCause s b).trans (tagStep_tagCause_congr s (HostEffect_tagCause he))
      tagErr_kept := fun no => (errors ((tagFails_iff s).not.mp no)).1
      tagErr_set := fun fails => by
        rw [finishCycle_sticky]
        exact tagStep_tagErr_set _ fails
      tagReady := ready
      session_kept := session
      params := (finishCycle_params s b).trans (HostEffect_params he :) }

theorem exists_readerStep {s : State} (hr : (input s).rst = false) : ∃ t, step s = .next t ∧ ReaderStep s t := by
  obtain ⟨b, hb, -⟩ := hostPhase_effect s
  exact ⟨_, step_of_hostPhase hr hb, step_reader hr (step_of_hostPhase hr hb)⟩

/-- Without a publication, TAG_READY changes by a host clear alone (R245). -/
theorem ReaderStep.tagReady_cleared {s t : State} (k : ReaderStep s t) (no : tagPublishes s = false) :
    flagSet t .tagReady = (flagSet s .tagReady && !hostClearsFlag s .tagReady) := by
  simpa [no] using k.tagReady

end Sys2Proof.Machine
end

section
/-! PROOFS. The obligations on a single cycle of TAG. -/

namespace Sys2Proof.Machine

/-! ## Disable, the poll trigger and the poll -/

/-- Settles O35: a disabled TAG takes its disabled state, and neither publishes nor fails. -/
theorem disabledTagIsIdle : Obligations.DisabledTagIsIdle := by
  intro s hr off
  obtain ⟨t, h, k⟩ := exists_readerStep hr
  have eq := tagStep_of_off (beginCycle s) off
  have noPublish : tagPublishes s = false := by simp [tagPublishes, off]
  have abort : t.rdAbortQ = s.rdPend := by simp [k.rdAbortQ, eq]
  exact ⟨t, h, by simp [k.tagState (by simp [closesSession, off]), eq], by simp [k.rdPend, eq], by simp [k.pollCount, eq],
    by simp [k.xcvCount, eq], by simp [k.rdIssue, eq], abort, abort, k.session_kept noPublish, by simp [k.tagCause, eq],
    k.tagErr_kept (not_tagFails_of_off off), k.tagReady_cleared noPublish⟩

/-- Settles O37: the trigger's R_POLL is TagStep's whole effect. -/
theorem triggerIssuesThePoll : Obligations.TriggerIssuesThePoll := by
  intro s hr en st noRequest due
  obtain ⟨t, h, k⟩ := exists_readerStep hr
  have eq := tagStep_of_pollStarts (beginCycle s) ((pollStarts_iff s).mpr ⟨en, st, noRequest, due⟩)
  have state := k.tagState (closesSession_of_ne_present (by simp [st]))
  have issue : t.rdIssue = true := by simp [k.rdIssue, eq]
  have op : t.rdOp = .poll := by simp [k.rdOp, eq]
  exact ⟨t, h, by simp [state, eq, st], op, issue, by simp [k.rdPend, eq], by simp [k.xcvCount, eq, load], issue,
    by simp [op, rdOpCode]⟩

/-- The trigger of a waiting poll, by the mode (R172, R173). -/
theorem pollDue_iff (S : State) : pollDue S = true ↔
    if tagMode S = true then (input S).tagPin = true ∧ S.pinPrev = false else tick S = true ∧ S.pollCount = 1 := by
  unfold pollDue
  split <;> simp

/-- What a cycle of POLLING, AUTHENTICATING or READING keeps when nothing ends (R170). -/
theorem ReaderStep.waits {s t : State} (k : ReaderStep s t) (en : tagEn s = true) (waits : rdOutcome s = none)
    (st : s.tagState = .polling ∨ s.tagState = .authenticating ∨ s.tagState = .reading) :
    t.tagState = s.tagState ∧ t.tagCause = s.tagCause ∧ sessionRegs t = sessionRegs s
      ∧ (t.rdIssue = false → t.rdOp = s.rdOp ∧ t.rdPend = s.rdPend ∧ t.uidSh = s.uidSh ∧ t.uidlenSh = s.uidlenSh)
      ∧ (s.tagState ≠ .polling → t.rdIssue = false)
      ∧ (t.rdIssue = false → s.rdPend = false → t.xcvCount = s.xcvCount) := by
  have notIdle : s.tagState ≠ .idle := by rcases st with st | st | st <;> simp [st]
  have state := k.tagState (closesSession_of_ne_present (by rcases st with st | st | st <;> simp [st]))
  have session := k.session_kept (by simp [tagPublishes, waits])
  cases starts : pollStarts s with
  | true =>
    have eq := tagStep_of_pollStarts (beginCycle s) starts
    have issue : t.rdIssue = true := by simp [k.rdIssue, eq]
    obtain ⟨-, polling, -⟩ := (pollStarts_iff s).mp starts
    exact ⟨by simp [state, eq], by simp [k.tagCause, eq], session, by simp [issue], absurd polling, by simp [issue]⟩
  | false =>
    have eq := tagStep_of_waits (beginCycle s) en notIdle waits starts
    obtain ⟨pend, -, count⟩ := tagCounted_of_waits (beginCycle s) waits
    refine ⟨by simp [state, eq], by simp [k.tagCause, eq], session, fun _ => ⟨by simp [k.rdOp, eq], ?_, by simp [k.uidSh, eq],
      by simp [k.uidlenSh, eq]⟩, fun _ => by simp [k.rdIssue, eq], fun _ noRequest => ?_⟩
    · rw [k.rdPend, eq, pend, beginCycle_rdPend]
    · rw [k.xcvCount, eq, count]
      simp [rdLive, noRequest]

/-- Settles O36: the poll counter is TagStep's own, a poll starts exactly at a trigger, and without an outcome the transceive is
left as it is. -/
theorem pollTriggerFollowsTheMode : Obligations.PollTriggerFollowsTheMode := by
  intro s hr en
  obtain ⟨t, h, k⟩ := exists_readerStep hr
  refine ⟨t, h, ?_, fun st noRequest => ?_, fun st => ?_, k.waits en, fun noRequest => ?_⟩
  · rw [k.pollCount, tagStep_pollCount _ en, tagPoll_pollCount (S := s) (a := beginCycle s) rfl]
    rfl
  · rw [← pollDue_iff, k.rdIssue]
    cases due : pollDue s with
    | true => simp [tagStep_of_pollStarts _ ((pollStarts_iff s).mpr ⟨en, st, noRequest, due⟩)]
    | false => simp [tagStep_of_waits (S := s) _ en (by simp [st]) (rdOutcome_of_not_pend noRequest) (by simp [pollStarts, due])]
  · have eq := tagStep_of_idle (beginCycle s) en st
    exact ⟨by simp [k.tagState (closesSession_of_ne_present (by simp [st])), eq], by simp [k.rdIssue, eq]⟩
  · obtain ⟨-, abort, -⟩ := tagCounted_of_waits (beginCycle s) (rdOutcome_of_not_pend noRequest)
    rw [outputs_rdAbort, k.rdAbortQ, tagStep_rdAbortQ _ en, abort, beginCycle_rdAbortQ]

/-! ## The responses -/

/-- Settles O38: a poll that is answered starts R_AUTH, one that is not leaves TAG waiting. -/
theorem pollResponseStartsAuthentication : Obligations.PollResponseStartsAuthentication := by
  intro s out hr en st ended
  obtain ⟨t, h, k⟩ := exists_readerStep hr
  have state := k.tagState (closesSession_of_ne_present (by simp [st]))
  have noPublish : tagPublishes s = false := tagPublishes_of_ne_reading (by simp [st])
  have noFailure : ¬ tagFails s := not_tagFails_of_state (by simp [st]) (by simp [st])
  have cause : t.tagCause = s.tagCause :=
    k.tagCause.trans ((tagStep_effect s (beginCycle s)).tagCause_kept noFailure)
  refine ⟨t, h, fun answered => ?_, fun unanswered => ?_, k.session_kept noPublish, cause, k.tagErr_kept noFailure,
    k.tagReady_cleared noPublish⟩
  · have eq := tagStep_of_authStarts (beginCycle s) ((authStarts_iff s).mpr ⟨en, st, by simpa [ended] using answered⟩)
    have op : t.rdOp = .auth := by simp [k.rdOp, eq]
    exact ⟨by simp [state, eq], op, by simp [k.rdIssue, eq], by simp [k.rdPend, eq], by simp [k.xcvCount, eq, load],
      by simp [op, rdOpCode], by simp [k.params], by simp [k.params]⟩
  · have eq := tagStep_of_noTag (beginCycle s) en st ended unanswered
    obtain ⟨pend, count, -⟩ := tagCounted_of_outcome (beginCycle s) ended
    exact ⟨by simp [state, eq, st], by rw [k.rdPend, eq, pend], by rw [k.xcvCount, eq, count], by simp [k.rdIssue, eq]⟩

/-- What a failed AUTH or READ leaves (R179, R181). -/
theorem ReaderStep.failed {s t : State} (k : ReaderStep s t) {out : RdStatus} {c : TagCause} (ended : rdOutcome s = some out)
    (fails : tagFails s) (eq : tagStep s (beginCycle s) = tagFail c (tagCounted s (beginCycle s))) :
    t.tagState = .polling ∧ t.rdPend = false ∧ t.rdIssue = false ∧ t.sticky.getLsbD 1 = true ∧
      t.tagCause = tagCauseCode c := by
  have notPresent : s.tagState ≠ .present := by
    obtain ⟨-, -, -, ⟨st, -⟩ | ⟨st, -⟩⟩ := fails <;> simp [st]
  obtain ⟨pend, -, -⟩ := tagCounted_of_outcome (beginCycle s) ended
  exact ⟨by simp [k.tagState (closesSession_of_ne_present notPresent), eq], by simp [k.rdPend, eq, pend],
    by simp [k.rdIssue, eq], k.tagErr_set fails, by simp [k.tagCause, eq]⟩

/-- Settles O39: R_READ starts on an OK with a legal UID length, and any other outcome is a failed AUTH. -/
theorem authResponseStartsTheReadOrAborts : Obligations.AuthResponseStartsTheReadOrAborts := by
  intro s out hr en st ended
  obtain ⟨t, h, k⟩ := exists_readerStep hr
  have noPublish : tagPublishes s = false := tagPublishes_of_ne_reading (by simp [st])
  refine ⟨t, h, k.session_kept noPublish, k.tagReady_cleared noPublish, ?_⟩
  simp only [← uidlenOk_iff]
  split
  case isTrue ok =>
    obtain ⟨rfl, legal⟩ := ok
    have eq := tagStep_of_readStarts (beginCycle s) ((readStarts_iff s).mpr ⟨en, st, ended, legal⟩)
    have noFailure : ¬ tagFails s := by simp [tagFails, ended, st, legal]
    have op : t.rdOp = .read := by simp [k.rdOp, eq]
    exact ⟨by simp [k.uidSh, eq], by simp [k.uidlenSh, eq],
      by simp [k.tagState (closesSession_of_ne_present (by simp [st])), eq], op, by simp [k.rdIssue, eq],
      by simp [k.rdPend, eq], by simp [k.xcvCount, eq, load], by simp [op, rdOpCode], by simp [k.tagCause, eq],
      k.tagErr_kept noFailure⟩
  case isFalse no =>
    have eq := tagStep_of_authFails (beginCycle s) en st ended no
    have code : tagCauseCode (failCause .authenticating out) = if out = .timeout then 2 else 1 := by cases out <;> rfl
    rw [← code]
    exact k.failed ended ⟨en, out, ended, .inl ⟨st, no⟩⟩ eq

/-- Settles O41: any outcome of a READ but OK is a failed READ. -/
theorem failedReadAbortsToPolling : Obligations.FailedReadAbortsToPolling := by
  intro s out hr en st ended no
  obtain ⟨t, h, k⟩ := exists_readerStep hr
  have eq := tagStep_of_readFails (beginCycle s) en st ended no
  have noPublish : tagPublishes s = false := by simp [tagPublishes, ended, no]
  have code : tagCauseCode (failCause .reading out) = if out = .timeout then 4 else 3 := by cases out <;> rfl
  obtain ⟨state, pend, issue, err, cause⟩ := k.failed ended ⟨en, out, ended, .inr ⟨st, no⟩⟩ eq
  exact ⟨t, h, state, pend, issue, err, cause.trans code, k.session_kept noPublish, by simp [k.uidSh, eq],
    k.tagReady_cleared noPublish⟩

end Sys2Proof.Machine
end

section
/-! PROOFS. The published session (R180), the deadline (R182), and what an open session or a transceive discards (R184, R185,
R187). -/

namespace Sys2Proof.Machine

/-! ## The published session -/

@[simp] theorem finishCycle_tagData0 (S a : State) : (finishCycle S a).tagData0 = (tagStep S a).tagData0 := by
  simpa [finishCycle, subUnits] using tagStep_tagData0_congr S (kpdStep_tagData0 S a)
@[simp] theorem finishCycle_tagData1 (S a : State) : (finishCycle S a).tagData1 = (tagStep S a).tagData1 := by
  simpa [finishCycle, subUnits] using tagStep_tagData1_congr S (kpdStep_tagData1 S a)
@[simp] theorem finishCycle_tagData2 (S a : State) : (finishCycle S a).tagData2 = (tagStep S a).tagData2 := by
  simpa [finishCycle, subUnits] using tagStep_tagData2_congr S (kpdStep_tagData2 S a)
@[simp] theorem finishCycle_tagData3 (S a : State) : (finishCycle S a).tagData3 = (tagStep S a).tagData3 := by
  simpa [finishCycle, subUnits] using tagStep_tagData3_congr S (kpdStep_tagData3 S a)

/-- The four data words of a READ response, the first with the first bytes (R37). -/
def dataWords (d : BitVec 128) : List Word :=
  [d.extractLsb' 0 32, d.extractLsb' 32 32, d.extractLsb' 64 32, d.extractLsb' 96 32]

theorem dataWords_getElem? (d : BitVec 128) : ∀ k < 4, (dataWords d)[k]? = some (d.extractLsb' (32 * k) 32)
  | 0, _ | 1, _ | 2, _ | 3, _ => rfl

/-- Byte i of a READ response stands in word i / 4 as byte i % 4 (R37, R180). -/
theorem dataWords_byte (d : BitVec 128) {i : Nat} (hi : i < 16) :
    ((dataWords d)[i / 4]?.map fun w => w.extractLsb' (8 * (i % 4)) 8) = some (d.extractLsb' (8 * i) 8) := by
  rw [dataWords_getElem? d (i / 4) (by omega), Option.map_some]
  congr 1
  apply BitVec.eq_of_getLsbD_eq
  intro j hj
  have inWord : 8 * (i % 4) + j < 32 := by omega
  have place : 32 * (i / 4) + (8 * (i % 4) + j) = 8 * i + j := by omega
  simp [hj, inWord, place]

/-- The session registers after a cycle that publishes (R180). -/
theorem step_of_publishes {s t : State} (hr : (input s).rst = false) (h : step s = .next t) (pub : tagPublishes s = true) :
    t.tagUidlen = s.uidlenSh ∧ tagUid t = uidKept s.uidSh s.uidlenSh ∧
    [t.tagData0, t.tagData1, t.tagData2, t.tagData3] = dataWords (input s).rspData := by
  obtain ⟨b, -, -, rfl⟩ := step_cases hr h
  have eq := tagStep_of_publishes b pub
  rw [finishCycle_tagUidlen, finishCycle_tagUid, finishCycle_tagData0, finishCycle_tagData1, finishCycle_tagData2,
    finishCycle_tagData3, eq]
  exact ⟨rfl, tagUid_publish s.uidSh s.uidlenSh (input s).rspData (tagCounted s b), rfl⟩

/-- Settles O40: the publication writes every session register, and sets TAG_READY over a host clear. -/
theorem readResponsePublishesTheSession : Obligations.ReadResponsePublishesTheSession := by
  intro s hr en st ended
  obtain ⟨t, h, k⟩ := exists_readerStep hr
  have pub : tagPublishes s = true := (tagPublishes_iff s).mpr ⟨en, st, ended⟩
  have eq := tagStep_of_publishes (beginCycle s) pub
  have noFailure : ¬ tagFails s := by simp [tagFails, ended, st]
  obtain ⟨pend, -, -⟩ := tagCounted_of_outcome (beginCycle s) ended
  obtain ⟨len, uid, data⟩ := step_of_publishes hr h pub
  have state : t.tagState = .present := by
    rw [k.tagState (closesSession_of_ne_present (by simp [st])), eq]
    rfl
  refine ⟨t, h, state, by simp [k.rdPend, eq, pend],
    by simp [k.rdIssue, eq], by simp [k.tagCause, eq], k.tagErr_kept noFailure, by simp [k.tagReady, pub], len,
    fun i hi => ?_, fun i hi => ?_⟩
  · rw [uid]
    exact uidKept_byte s.uidSh s.uidlenSh i hi
  · rw [data]
    exact dataWords_byte _ hi

/-! ## The deadline -/

/-- Settles O42: what ends a transceive is the outcome of the cycle; TagStep ends it or counts it down whatever the TAG
state. -/
theorem deadlineEndsTheTransceive : Obligations.DeadlineEndsTheTransceive := by
  intro s hr en pend
  obtain ⟨t, h, k⟩ := exists_readerStep hr
  have abort : t.rdAbortQ = (tagCounted s (beginCycle s)).rdAbortQ := k.rdAbortQ.trans (tagStep_rdAbortQ _ en)
  refine ⟨fun issue => ?_, fun past valid => ?_, fun past quiet ticked last => ?_, fun waits notIdle => ?_⟩
  · simp [rdOutcome_eq_none_iff, rdDeadline, rdResponse, rdLive, issue]
  · have rsp : rdResponse s = true := by simp [rdResponse, rdLive, pend, past, valid]
    have outcome : rdOutcome s = some (rdStatus (input s).rspStatus) := by simp [rdOutcome, rsp]
    have noAbort : t.rdAbortQ = false := by
      obtain ⟨-, -, deadline⟩ := tagCounted_of_outcome (beginCycle s) outcome
      rw [abort, deadline]
      simp [rdDeadline, rsp]
    exact ⟨fun st => by rw [outcome, st]; rfl, fun st => by rw [outcome, st]; rfl, fun st => by rw [outcome, st]; rfl,
      fun st => by rw [outcome, st]; rfl, t, h, noAbort, noAbort⟩
  · have noRsp : rdResponse s = false := by simp [rdResponse, quiet]
    have deadline : rdDeadline s = true := by simp [rdDeadline, noRsp, rdLive, pend, past, ticked, last]
    have outcome : rdOutcome s = some .timeout := by simp [rdOutcome, noRsp, deadline]
    obtain ⟨-, -, fires⟩ := tagCounted_of_outcome (beginCycle s) outcome
    obtain ⟨ended, stopped⟩ := (tagStep_effect s (beginCycle s)).timeout_ends outcome
    have aborts : t.rdAbortQ = true := abort.trans (fires.trans deadline)
    exact ⟨outcome, t, h, aborts, aborts, k.rdPend.trans ended, k.xcvCount.trans stopped⟩
  · have eq := tagStep_of_waits (beginCycle s) en notIdle waits (pollStarts_of_pend pend)
    obtain ⟨kept, keptAbort, count⟩ := tagCounted_of_waits (beginCycle s) waits
    have noAbort : t.rdAbortQ = false := abort.trans keptAbort
    refine ⟨t, h, by simp [k.rdPend, eq, kept, pend], by simp [k.rdIssue, eq], noAbort, noAbort, by simp [k.rdOp, eq],
      fun notPresent => by simp [k.tagState (closesSession_of_ne_present notPresent), eq], ?_⟩
    rw [k.xcvCount, eq, count]
    simp [rdLive, pend]

/-! ## What is discarded -/

/-- Settles O44: PRESENT lets TagStep count and no more, so the state is left by a SESSION_CLOSE or a disable alone. -/
theorem openSessionSuspendsPolling : Obligations.OpenSessionSuspendsPolling := by
  intro s t hr h st
  have k := step_reader hr h
  refine ⟨?_, k.session_kept (tagPublishes_of_ne_reading (by simp [st])), fun left => ?_⟩
  · by_contra issue
    rw [Bool.not_eq_false, k.rdIssue] at issue
    rcases (tagStep_effect s (beginCycle s)).issued rfl issue with ⟨starts, -⟩ | ⟨starts, -⟩ | ⟨starts, -⟩
    · simp [pollStarts, st] at starts
    · simp [authStarts, st] at starts
    · simp [readStarts, st] at starts
  · by_contra! stays
    obtain ⟨on, noClose⟩ := stays
    have en : tagEn s = true := by simpa using on
    refine left ((k.tagState (by simp [closesSession, noClose])).trans ?_)
    simp [tagStep_of_present (beginCycle s) en st, st]

/-- The state in whose present cycle the tag-presence pin is `pin`. -/
def withPin (pin : Bool) (s : State) : State := withInput (fun i => { i with tagPin := pin }) s

/-- Outside a waiting POLLING, TAG's state machine does not read the pin (R184, R185). -/
theorem tagFsm_withPin {s : State} (pin : Bool) (a : State) (discards : s.tagState ≠ .polling ∨ s.rdPend = true) :
    tagFsm (withPin pin s) a = tagFsm s a := by
  have state : (withPin pin s).tagState = s.tagState := rfl
  have pend : (withPin pin s).rdPend = s.rdPend := rfl
  cases st : s.tagState
  case idle => simp [tagFsm, state, st]
  case polling =>
    have requestOpen : s.rdPend = true := discards.resolve_left (not_not.mpr st)
    have outcome : rdOutcome (withPin pin s) = rdOutcome s := rfl
    simp only [tagFsm, state, st, pend, requestOpen, outcome]
    rfl
  case authenticating =>
    simp only [tagFsm, state, st]
    rfl
  case reading =>
    simp only [tagFsm, state, st]
    rfl
  case present => simp [tagFsm, state, st]

theorem tagStep_withPin {s : State} (pin : Bool) (a : State) (discards : s.tagState ≠ .polling ∨ s.rdPend = true) :
    tagStep (withPin pin s) a = tagStep s a := by
  have counted : tagCounted (withPin pin s) a = tagCounted s a := rfl
  cases en : tagEn s with
  | false => rw [tagStep_of_off a en, tagStep_of_off (S := withPin pin s) a en]; rfl
  | true => rw [tagStep_of_on a en, tagStep_of_on (S := withPin pin s) a en, counted, tagFsm_withPin pin _ discards]

/-- The cycle with the pin at another level is the same, but for the sample. -/
theorem finishCycle_withPin {s : State} (pin : Bool) (a : State) (discards : s.tagState ≠ .polling ∨ s.rdPend = true) :
    finishCycle (withPin pin s) a = { finishCycle s a with pinPrev := pin } := by
  have kpd (b : State) : kpdStep (withPin pin s) b = kpdStep s b := rfl
  have fcc (b : State) : fccStep (withPin pin s) b = fccStep s b := rfl
  have disp (b : State) : dispStep (withPin pin s) b = dispStep s b := rfl
  rw [finishCycle, subUnits, kpd, tagStep_withPin pin _ discards, fcc, disp]
  rfl

/-- Settles O43: neither the host's part nor a sub-unit reads the pin there, and a poll needs a waiting POLLING. -/
theorem triggersAreDiscardedOutsidePolling : Obligations.TriggersAreDiscardedOutsidePolling := by
  intro s t pin hr h discards
  refine ⟨?_, fun issue => ?_⟩
  · obtain ⟨b, hb, -, rfl⟩ := step_cases hr h
    have host : hostPhase (withPin pin s) = .next (setInputs (withPin pin s).inputs b) := hostPhase_withInput rfl hb
    calc step (withPin pin s)
      _ = .next (finishCycle (withPin pin s) (setInputs (withPin pin s).inputs b)) := step_of_hostPhase hr host
      _ = .next (finishCycle (withPin pin s) b) := congrArg _ (finishCycle_congr _ rfl)
      _ = .next { finishCycle s b with pinPrev := pin } := congrArg _ (finishCycle_withPin pin b discards)
  · have k := step_reader hr h
    rw [k.rdIssue] at issue
    rw [k.rdOp]
    have noPoll : pollStarts s = false := discards.elim pollStarts_of_ne_polling pollStarts_of_pend
    rcases (tagStep_effect s (beginCycle s)).issued rfl issue with ⟨starts, -⟩ | ⟨-, op⟩ | ⟨-, op⟩
    · simp [noPoll] at starts
    · simp [op]
    · simp [op]

end Sys2Proof.Machine
end

section
/-! PROOFS. The port requests (log entry 8) and the host's commands in a whole cycle. -/

namespace Sys2Proof.Machine

/-! ## The meanings of the port requests -/

theorem exec_rPoll (s : State) : exec .rPoll s = .next (if pollStarts s then startPoll s s else s) := rfl
theorem exec_rAuth (s : State) : exec .rAuth s = .next (if authStarts s then startAuth s s else s) := rfl
theorem exec_rRead (s : State) : exec .rRead s = .next (if readStarts s then startRead s s else s) := rfl

theorem exec_flErase_of_idle {s : State} (idle : s.fccState = .idle) : exec .flErase s = .next (startErase s) := by
  simp [exec, execFlErase, idle]

theorem exec_flRead_of_idle {s : State} (idle : s.fccState = .idle) : exec .flRead s = .next (startLoad s) := by
  simp [exec, execFlRead, idle]

theorem exec_flProgram_of_acked {s : State} (st : s.fccState = .erasing) (ack : flAcked s = true) :
    exec .flProgram s = .next (startProgram s) := by
  simp [exec, execFlProgram, st, ack]

/-- Settles O21: each request's meaning is its start under the operands of its rule. -/
theorem readerRequestsAreIssuedInTheirState : Obligations.ReaderRequestsAreIssuedInTheirState := by
  intro s
  refine ⟨fun en st noRequest due => ?_, fun en st ended => ?_, fun en st ended lo hi => ?_, fun no => ?_, fun no => ?_,
    fun no => ?_⟩
  · rw [exec_rPoll, if_pos ((pollStarts_iff s).mpr ⟨en, st, noRequest, due⟩)]
    rfl
  · rw [exec_rAuth, if_pos ((authStarts_iff s).mpr ⟨en, st, ended⟩)]
    rfl
  · rw [exec_rRead, if_pos ((readStarts_iff s).mpr ⟨en, st, ended, (uidlenOk_iff s).mpr ⟨lo, hi⟩⟩)]
    rfl
  · rw [exec_rPoll, if_neg]
    rw [pollStarts_iff]
    rintro ⟨en, st, noRequest, due⟩
    simp [en, st, noRequest, due] at no
  · rw [exec_rAuth, if_neg]
    rw [authStarts_iff]
    rintro ⟨en, st, ended | ended⟩ <;> simp [en, st, ended] at no
  · rw [exec_rRead, if_neg]
    rw [readStarts_iff, uidlenOk_iff]
    rintro ⟨en, st, ended, lo, hi⟩
    rcases no with off | other | notOk | zero | long
    · simp [en] at off
    · exact other st
    · exact notOk ended
    · omega
    · omega

/-! ## A cycle issues a reader request -/

/-- The cycle leaves TAG and the reader port as a request's own meaning leaves them in `r`. -/
structure IssuesLike (t r : State) : Prop where
  issue : t.rdIssue = true
  issue_eq : t.rdIssue = r.rdIssue
  op : t.rdOp = r.rdOp
  pend : t.rdPend = r.rdPend
  count : t.xcvCount = r.xcvCount
  state : t.tagState = r.tagState
  uid : t.uidSh = r.uidSh
  uidlen : t.uidlenSh = r.uidlenSh

theorem ReaderStep.issuesLike {s t r : State} (k : ReaderStep s t) (st : s.tagState ≠ .present)
    (like : IssuesLike (tagStep s (beginCycle s)) r) : IssuesLike t r where
  issue := k.rdIssue.trans like.issue
  issue_eq := k.rdIssue.trans like.issue_eq
  op := k.rdOp.trans like.op
  pend := k.rdPend.trans like.pend
  count := k.xcvCount.trans like.count
  state := (k.tagState (closesSession_of_ne_present st)).trans like.state
  uid := k.uidSh.trans like.uid
  uidlen := k.uidlenSh.trans like.uidlen

/-- The request's operands hold in the cycle (R175, R176, R178). -/
def RequestDue (s : State) (i : Instr) : Prop :=
  (i = .rPoll ∧ pollStarts s = true) ∨ (i = .rAuth ∧ authStarts s = true) ∨ (i = .rRead ∧ readStarts s = true)

/-- TagStep starts a request that is due as its own meaning does. -/
theorem RequestDue.issuesLike {s r : State} {i : Instr} (due : RequestDue s i) (hx : exec i s = .next r) :
    s.tagState ≠ .present ∧ IssuesLike (tagStep s (beginCycle s)) r := by
  rcases due with ⟨rfl, starts⟩ | ⟨rfl, starts⟩ | ⟨rfl, starts⟩
  · obtain ⟨-, st, -⟩ := (pollStarts_iff s).mp starts
    rw [exec_rPoll, if_pos starts] at hx
    obtain rfl := Host.Outcome.next.inj hx
    rw [tagStep_of_pollStarts _ starts]
    exact ⟨by simp [st], by constructor <;> simp⟩
  · obtain ⟨-, st, -⟩ := (authStarts_iff s).mp starts
    rw [exec_rAuth, if_pos starts] at hx
    obtain rfl := Host.Outcome.next.inj hx
    rw [tagStep_of_authStarts _ starts]
    exact ⟨by simp [st], by constructor <;> simp⟩
  · obtain ⟨-, st, -⟩ := (readStarts_iff s).mp starts
    rw [exec_rRead, if_pos starts] at hx
    obtain rfl := Host.Outcome.next.inj hx
    rw [tagStep_of_readStarts _ starts]
    exact ⟨by simp [st], by constructor <;> simp⟩

/-! ## A cycle issues a flash request -/

theorem fccStep_of_idle {S : State} (a : State) (idle : S.fccState = .idle) : fccStep S a = a := by
  simp [fccStep, idle]

/-- An accepted COMMIT is the host's whole part of the cycle (R211). -/
theorem hostPhase_of_commit {s : State} (cmd : hostCommand s = some .commit) (idle : s.fccState = .idle) :
    hostPhase s = .next (startErase (respondWrite (beginCycle s))) :=
  (hostPhase_of_command cmd).trans (exec_commit_of_idle (s := respondWrite (beginCycle s)) idle)

/-- An accepted LOAD is the host's whole part of the cycle (R214). -/
theorem hostPhase_of_load {s : State} (cmd : hostCommand s = some .load) (idle : s.fccState = .idle) :
    hostPhase s = .next (startLoad (respondWrite (beginCycle s))) :=
  (hostPhase_of_command cmd).trans (exec_load_of_idle (s := respondWrite (beginCycle s)) idle)

theorem step_of_commit {s : State} (hr : (input s).rst = false) (cmd : hostCommand s = some .commit)
    (idle : s.fccState = .idle) : step s = .next (finishCycle s (startErase (respondWrite (beginCycle s)))) :=
  step_of_hostPhase hr (hostPhase_of_commit cmd idle)

theorem step_of_load {s : State} (hr : (input s).rst = false) (cmd : hostCommand s = some .load)
    (idle : s.fccState = .idle) : step s = .next (finishCycle s (startLoad (respondWrite (beginCycle s)))) :=
  step_of_hostPhase hr (hostPhase_of_load cmd idle)

/-- Settles O6: TagStep, the accepted command and FccStep each issue their request by the operation that is its meaning. -/
theorem stepIssuesThePortRequest : Obligations.StepIssuesThePortRequest := by
  intro s t hr h i r hx
  refine ⟨fun due => ?_, ?_⟩
  · obtain ⟨st, like⟩ := RequestDue.issuesLike due hx
    obtain ⟨issue, issueEq, op, pend, count, state, uid, uidlen⟩ := (step_reader hr h).issuesLike st like
    exact ⟨issue, issueEq, op, pend, count, state, uid, uidlen⟩
  · rintro (⟨rfl, idle, cmd⟩ | ⟨rfl, idle, cmd⟩ | ⟨rfl, st, ack⟩)
    · obtain rfl := Host.Outcome.next.inj ((exec_flErase_of_idle idle).symm.trans hx)
      obtain rfl := Host.Outcome.next.inj ((step_of_commit hr cmd idle).symm.trans h)
      simp [fccStep_of_idle _ idle]
    · obtain rfl := Host.Outcome.next.inj ((exec_flRead_of_idle idle).symm.trans hx)
      obtain rfl := Host.Outcome.next.inj ((step_of_load hr cmd idle).symm.trans h)
      simp [fccStep_of_idle _ idle]
    · obtain rfl := Host.Outcome.next.inj ((exec_flProgram_of_acked st ack).symm.trans hx)
      obtain ⟨b, -, -, rfl⟩ := step_cases hr h
      simp [fccStep, st, ack]

/-! ## The commands in a whole cycle -/

/-- Without a COMMIT or LOAD the host's part leaves the flash port idle (R210). -/
theorem HostRun.flash_kept {s b : State} (run : HostRun s b) (noCommit : hostCommand s ≠ some .commit)
    (noLoad : hostCommand s ≠ some .load) : b.fccState = s.fccState ∧ b.flIssue = false ∧ b.flPend = s.flPend ∧
      b.flOp = s.flOp ∧ b.flash = s.flash := by
  cases run
  case commit v access cmd _ => exact absurd (hostCommand_eq_some_iff.mpr ⟨v, access, cmd⟩) noCommit
  case load v access cmd _ => exact absurd (hostCommand_eq_some_iff.mpr ⟨v, access, cmd⟩) noLoad
  all_goals exact ⟨rfl, rfl, rfl, rfl, rfl⟩

/-- A COMMIT or LOAD while FCC is busy records CMD_ERR with FCC_BUSY (R217). -/
theorem hostPhase_of_cmdBusy {s : State} (cmd : hostCommand s = some .commit ∨ hostCommand s = some .load)
    (busy : s.fccState ≠ .idle) : hostPhase s = .next (raise (.cmd .fccBusy) (respondWrite (beginCycle s))) := by
  rcases cmd with cmd | cmd
  · exact (hostPhase_of_command cmd).trans (exec_commit_of_busy (s := respondWrite (beginCycle s)) busy)
  · exact (hostPhase_of_command cmd).trans (exec_load_of_busy (s := respondWrite (beginCycle s)) busy)

/-- Settles O20: the host's part runs the command, and no sub-unit writes over it. -/
theorem commandCycleTakesEffect : Obligations.CommandCycleTakesEffect := by
  intro s hr
  obtain ⟨b, hb, -⟩ := hostPhase_effect s
  have h := step_of_hostPhase hr hb
  have k := step_reader hr h
  have addr := outputs_flReqAddr_toNat (finishCycle s b)
  rw [k.params] at addr
  refine ⟨_, h, fun cmd en st => ?_, fun cmd idle => ?_, fun cmd idle => ?_, fun cmd busy => ?_, fun cmd => ?_,
    fun idle noCommit noLoad => ?_⟩
  · obtain ⟨issue, session, -⟩ := openSessionSuspendsPolling s _ hr h st
    refine ⟨k.tagState_closed ((closesSession_iff s).mpr ⟨cmd, en, st⟩), issue, session, fun ready => ?_⟩
    simp [k.tagReady, ready, hostClearsFlag_of_command cmd]
  · obtain rfl := Host.Outcome.next.inj ((hostPhase_of_commit cmd idle).symm.trans hb)
    simp [fccStep_of_idle _ idle, irqHold, fccBusy, flOpCode, flReqLen, addr]
  · obtain rfl := Host.Outcome.next.inj ((hostPhase_of_load cmd idle).symm.trans hb)
    simp [fccStep_of_idle _ idle, irqHold, fccBusy, flOpCode, flReqLen, addr]
  · obtain rfl := Host.Outcome.next.inj ((hostPhase_of_cmdBusy cmd busy).symm.trans hb)
    exact ⟨finishCycle_bit_kept s _ ((sticky_or_bit rfl 2).mpr (.inr rfl)), finishCycle_cmdCause s _⟩
  · simp [step_flagSet hr h, flagEvent, cmd]
  · obtain ⟨state, issue, pend, op, flash⟩ := (hostPhase_run hb).flash_kept noCommit noLoad
    simp [fccStep_of_idle _ idle, state, issue, pend, op, flash, idle]

end Sys2Proof.Machine
end

section
/-! SUPPORT. The bytes of the flash page: what a program leaves in it, and what a read of it carries on `fl_rdata` (R109,
R112, R113). -/

namespace Sys2Proof.Machine

/-- Words with the same four bytes are equal (R78). -/
theorem word_eq_of_bytes {v w : Word} (h : ∀ b, b < 4 → v.extractLsb' (8 * b) 8 = w.extractLsb' (8 * b) 8) : v = w := by
  apply BitVec.eq_of_getLsbD_eq
  intro i hi
  have bit := congrArg (·.getLsbD (i % 8)) (h (i / 8) (by omega))
  have lt : i % 8 < 8 := Nat.mod_lt i (by decide)
  simpa [BitVec.getLsbD_extractLsb', lt, show 8 * (i / 8) + i % 8 = i by omega] using bit

/-- Byte b of word k of a LOAD is byte 4k+b of `fl_rdata` (R113). -/
theorem unpackLedger_byte (d : BitVec 480) (k : Fin 15) {b : Nat} (hb : b < 4) :
    ((unpackLedger d)[k]).extractLsb' (8 * b) 8 = d.extractLsb' (8 * (4 * k.val + b)) 8 := by
  apply BitVec.eq_of_getLsbD_eq
  intro i hi
  simp [unpackLedger, hi, show 8 * b + i < 32 by omega,
    show 32 * k.val + (8 * b + i) = 8 * (4 * k.val + b) + i by omega]

theorem flashReadBytes_length (m : List Host.Cell) (a n : Nat) : (flashReadBytes m a n).length = n := by
  induction n generalizing a with
  | zero => rfl
  | succ n ih => simp [flashReadBytes, ih]

theorem flashReadBytes_getElem? (m : List Host.Cell) (a : Nat) {n i : Nat} (h : i < n) :
    (flashReadBytes m a n)[i]? = some (flashRead m (a + i)) := by
  induction n generalizing a i with
  | zero => omega
  | succ n ih =>
    cases i with
    | zero => rfl
    | succ i =>
      simp only [flashReadBytes, List.getElem?_cons_succ]
      rw [ih (a + 1) (by omega), show a + 1 + i = a + (i + 1) by omega]

/-- Byte i of a contract-conforming FL_READ is byte i of the page (R81, R109). -/
theorem pageRdata_byte (s : State) {i : Nat} (h : i < 60) :
    (pageRdata s).extractLsb' (8 * i) 8 = flashRead s.flash (sectorBase s.params + i) :=
  packBytes_extract (flashReadBytes_getElem? s.flash _ h) (by rw [flashReadBytes_length]; decide)

/-- After the page image is stored, the page reads as the image (R81c, R112). -/
theorem flashRead_pageImage {m : List Host.Cell} (wf : flashWf m = true) (a : Nat) {l : Vector Word 15} {i : Nat} {v : Byte}
    (h : (pageImage l)[i]? = some v) : flashRead (flashWriteBytes m a (pageImage l)) (a + i) = v := by
  obtain ⟨hi, rfl⟩ := List.getElem?_eq_some_iff.mp h
  exact flashRead_writeBytes_inside wf _ a i hi

/-- The page in flash holds the fifteen words, in little-endian row-major order (R112). -/
def PageHolds (l : Vector Word 15) (s : State) : Prop :=
  ∀ (k : Fin 15) (b : Nat), b < 4 →
    flashRead s.flash (sectorBase s.params + (4 * k.val + b)) = (l[k]).extractLsb' (8 * b) 8

/-- The words a read of the page loads are those it holds: `unpackLedger` undoes `pageImage` (R112, R113). -/
theorem PageHolds.unpackLedger_eq {l : Vector Word 15} {s : State} (page : PageHolds l s) :
    unpackLedger (pageRdata s) = l := by
  refine Vector.ext fun k hk => word_eq_of_bytes fun b hb => ?_
  calc ((unpackLedger (pageRdata s))[k]).extractLsb' (8 * b) 8
      = (pageRdata s).extractLsb' (8 * (4 * k + b)) 8 := unpackLedger_byte _ ⟨k, hk⟩ hb
    _ = flashRead s.flash (sectorBase s.params + (4 * k + b)) := pageRdata_byte s (by omega)
    _ = (l[k]).extractLsb' (8 * b) 8 := page ⟨k, hk⟩ b hb

end Sys2Proof.Machine
end

section
/-! SUPPORT. FccStep in each of its situations (R210 to R218), and what a whole cycle leaves in FCC's registers. -/

namespace Sys2Proof.Machine

/-! ## FccStep by its situation -/

theorem flAcked_iff (S : State) : flAcked S = true ↔ S.flPend = true ∧ S.flIssue = false ∧ (input S).flAck = true := by
  simp [flAcked, and_assoc]

theorem flAcked_eq_false_iff (S : State) :
    flAcked S = false ↔ (input S).flAck = false ∨ S.flIssue = true ∨ S.flPend = false := by
  cases hp : S.flPend <;> cases hi : S.flIssue <;> simp [flAcked, hp, hi]

theorem fccStep_of_erased {S : State} (a : State) (st : S.fccState = .erasing) (ack : flAcked S = true) :
    fccStep S a = startProgram (sectorErased a) := by
  simp [fccStep, st, ack]

theorem fccStep_of_programmed {S : State} (a : State) (st : S.fccState = .programming) (ack : flAcked S = true) :
    fccStep S a = fccFinish (pageProgrammed a) := by
  simp [fccStep, st, ack]

theorem fccStep_of_loaded {S : State} (a : State) (st : S.fccState = .loading) (ack : flAcked S = true) :
    fccStep S a = fccFinish { a with ledger := unpackLedger (input S).flRdata } := by
  simp [fccStep, st, ack]

theorem fccStep_of_unacked {S : State} (a : State) (no : flAcked S = false) : fccStep S a = a := by
  unfold fccStep
  split <;> simp [no]

/-! ## FCC's registers over the host's part of a cycle -/

/-- FCC, LEDGER and the flash array are in `t` as they are in `s`. -/
structure FccHeld (s t : State) : Prop where
  state : t.fccState = s.fccState
  pend : t.flPend = s.flPend
  op : t.flOp = s.flOp
  ledger : t.ledger = s.ledger
  flash : t.flash = s.flash

theorem FccHeld.refl (s : State) : FccHeld s s := ⟨rfl, rfl, rfl, rfl, rfl⟩

theorem FccHeld.trans {s t u : State} (h : FccHeld s t) (k : FccHeld t u) : FccHeld s u :=
  ⟨k.state.trans h.state, k.pend.trans h.pend, k.op.trans h.op, k.ledger.trans h.ledger, k.flash.trans h.flash⟩

/-- While FCC is busy the host can change nothing of FCC, nor LEDGER (R76, R217), and the request's pulse is over (R14). -/
theorem HostEffect.fccHeld {s b : State} (host : HostEffect (beginCycle s) b) (busy : s.fccState ≠ .idle) :
    FccHeld s b ∧ b.flIssue = false := by
  cases host
  case ledger idle => exact absurd idle busy
  case commit idle => exact absurd idle busy
  case load idle => exact absurd idle busy
  all_goals exact ⟨⟨rfl, rfl, rfl, rfl, rfl⟩, rfl⟩

/-- A cycle without reset of a busy FCC is FccStep over a host's part that FCC does not see. -/
theorem step_of_busy {s : State} (hr : (input s).rst = false) (busy : s.fccState ≠ .idle) :
    ∃ b, step s = .next (finishCycle s b) ∧ FccHeld s b ∧ b.flIssue = false ∧ b.params = s.params := by
  obtain ⟨b, hb, host⟩ := hostPhase_effect s
  obtain ⟨held, quiet⟩ := host.fccHeld busy
  exact ⟨b, step_of_hostPhase hr hb, held, quiet, (HostEffect_params host :)⟩

/-- FCC_DONE is set in the cycle in which a COMMIT or LOAD completes, whatever the host writes (R51, R213, R215). -/
theorem fccDone_of_completes {s t : State} (hr : (input s).rst = false) (h : step s = .next t)
    (st : s.fccState = .programming ∨ s.fccState = .loading) (ack : flAcked s = true) : flagSet t .fccDone = true := by
  have completes : flagEvent s .fccDone = true := by rcases st with st | st <;> simp [flagEvent, fccCompletes, st, ack]
  simp [step_flagSet hr h, completes]

/-! ## The requests FCC issues -/

/-- The host puts a flash request on the port by an accepted COMMIT or LOAD alone (R211, R214). -/
theorem HostRun.flashIssued {s b : State} (run : HostRun s b) (issue : b.flIssue = true) : s.fccState = .idle ∧
    (hostCommand s = some .commit ∧ b.flOp = .erase ∨ hostCommand s = some .load ∧ b.flOp = .read) := by
  cases run
  case commit v access cmd idle => exact ⟨idle, .inl ⟨hostCommand_eq_some_iff.mpr ⟨v, access, cmd⟩, rfl⟩⟩
  case load v access cmd idle => exact ⟨idle, .inr ⟨hostCommand_eq_some_iff.mpr ⟨v, access, cmd⟩, rfl⟩⟩
  all_goals cases issue

/-- A request that appears on the flash port is the host's, or the program that follows an acknowledged erase (R212). -/
theorem FccEffect.issued {S a t : State} (k : FccEffect S a t) (issue : t.flIssue = true) :
    (a.flIssue = true ∧ t.flOp = a.flOp) ∨ (S.fccState = .erasing ∧ flAcked S = true ∧ t.flOp = .program) := by
  cases k
  case erased st ack => exact .inr ⟨st, ack, rfl⟩
  all_goals exact .inl ⟨issue, rfl⟩

/-- A reader request is issued only when none is outstanding, or at the end of one (R171, R176, R178). -/
theorem rdLive_or_free_of_issued {s t : State} (hr : (input s).rst = false) (h : step s = .next t)
    (issue : t.rdIssue = true) : s.rdPend = false ∨ rdLive s = true := by
  rw [(step_reader hr h).rdIssue] at issue
  rcases (tagStep_effect s (beginCycle s)).issued rfl issue with ⟨poll, -⟩ | ⟨auth, -⟩ | ⟨read, -⟩
  · obtain ⟨-, -, free, -⟩ := (pollStarts_iff s).mp poll
    exact .inl free
  · obtain ⟨-, -, ended | ended⟩ := (authStarts_iff s).mp auth <;> exact .inr (rdLive_of_outcome ended)
  · obtain ⟨-, -, ended, -⟩ := (readStarts_iff s).mp read
    exact .inr (rdLive_of_outcome ended)

end Sys2Proof.Machine
end

section
/-! PROOFS. The obligations on FCC: the flash requests and their acknowledgements, a flash that never answers, and the round
trip of a COMMIT and a LOAD. -/

namespace Sys2Proof.Machine

/-! ## The flash requests -/

/-- Settles O22: each request's meaning is its start under the operands of its rule. -/
theorem flashRequestsAreIssuedInTheirState : Obligations.FlashRequestsAreIssuedInTheirState := by
  intro s
  refine ⟨exec_flErase_of_idle, exec_flRead_of_idle,
    fun st pend past ack => exec_flProgram_of_acked st ((flAcked_iff s).mpr ⟨pend, past, ack⟩), fun busy => ?_,
    fun no => ?_⟩
  · simp [exec, execFlErase, execFlRead, busy]
  · rcases no with st | unacked
    · simp [exec, execFlProgram, st]
    · simp [exec, execFlProgram, unacked]

/-- Settles O50: a request comes from the host's part in IDLE or from FccStep at an acknowledgement, and in either case the
cycle is not itself a request cycle. -/
theorem flashRequestsHaveOneCause : Obligations.FlashRequestsHaveOneCause := by
  intro s t hi hr h
  refine ⟨fun issue => ?_, fun issue => ?_⟩
  · obtain ⟨b, hb, -, rfl⟩ := step_cases hr h
    rw [finishCycle_flIssue] at issue
    rw [finishCycle_flOp]
    rcases (fccStep_effect s b).issued issue with ⟨host, op⟩ | ⟨st, ack, op⟩
    · obtain ⟨idle, cause⟩ := (hostPhase_run hb).flashIssued host
      have past : s.flIssue = false := by
        rcases hi.flashRequest with free | ⟨-, busy⟩
        · exact free.issue
        · simp [idle] at busy
      rcases cause with ⟨cmd, erase⟩ | ⟨cmd, read⟩
      · simp [op, erase, past, idle, cmd]
      · simp [op, read, past, idle, cmd]
    · obtain ⟨-, past, -⟩ := (flAcked_iff s).mp ack
      simp [op, past, st, ack]
  · rcases rdLive_or_free_of_issued hr h issue with free | live
    · by_contra again
      simp [hi.rd_issue_pend (by simpa using again)] at free
    · obtain ⟨-, past⟩ : s.rdPend = true ∧ s.rdIssue = false := by simpa [rdLive] using live
      exact past

/-! ## The acknowledgements -/

/-- Settles O46: FccStep starts the program over the erased sector; the port carries the image of the unchanged LEDGER. -/
theorem eraseAcknowledgedStartsTheProgram : Obligations.EraseAcknowledgedStartsTheProgram := by
  intro s hr st pend past ack
  have acked : flAcked s = true := (flAcked_iff s).mpr ⟨pend, past, ack⟩
  obtain ⟨b, h, held, -, params⟩ := step_of_busy hr (by simp [st])
  have fcc := fccStep_of_erased b st acked
  have ledger : (finishCycle s b).ledger = s.ledger := by simp [fcc, held.ledger]
  have image {i : Nat} {v : Byte} (hv : (pageImage s.ledger)[i]? = some v) :
      (outputs (finishCycle s b)).flReqWdata.extractLsb' (8 * i) 8 = v := by
    rw [← ledger] at hv
    exact packBytes_extract hv (by rw [pageImage_length])
  have addr := outputs_flReqAddr_toNat (finishCycle s b)
  rw [finishCycle_params, params] at addr
  refine ⟨_, h, by simp [fcc], by simp [fcc], by simp [fcc], by simp [fcc], ledger, by simp [fcc],
    by simp [fcc, flOpCode], by simp [fcc, flReqLen], addr, fun k b hb => image (pageImage_word _ k hb),
    fun i lo hi => image (pageImage_pad _ lo hi), fun a => ?_⟩
  have top : sectorBase s.params + sectorBytes = s.params.flashSize := by
    rw [sectorBase_eq, Params.flashSize, sectorBytes]; omega
  have flash : (finishCycle s b).flash = flashErase s.flash (sectorBase s.params) sectorBytes := by
    simp [fcc, sectorErased, held.flash, params]
  rw [flash, flashRead_erase, top]
  rfl

/-- A program acknowledged in a canonical array ends the commit with the image in the page (R81c, R213). -/
theorem step_of_programmed {s : State} (hr : (input s).rst = false) (st : s.fccState = .programming)
    (ack : flAcked s = true) : ∃ t, step s = .next t ∧ t.fccState = .idle ∧ t.flPend = false ∧ t.flIssue = false ∧
      t.ledger = s.ledger ∧ t.params = s.params ∧
      t.flash = flashWriteBytes s.flash (sectorBase s.params) (pageImage s.ledger) := by
  obtain ⟨b, h, held, quiet, params⟩ := step_of_busy hr (by simp [st])
  have fcc := fccStep_of_programmed b st ack
  refine ⟨_, h, by simp [fcc], by simp [fcc], by simp [fcc, quiet], by simp [fcc, held.ledger], by simp [params], ?_⟩
  simp [fcc, pageProgrammed, held.flash, held.ledger, params]

/-- Settles O47: the array is the old one with the image of LEDGER stored from the page's base on. -/
theorem programAcknowledgedEndsTheCommit : Obligations.ProgramAcknowledgedEndsTheCommit := by
  intro s hi hr st past ack
  have pend : s.flPend = true := hi.fl_pend_state.trans (by simp [fccBusy, st])
  have acked : flAcked s = true := (flAcked_iff s).mpr ⟨pend, past, ack⟩
  obtain ⟨t, h, idle, noRequest, quiet, ledger, -, flash⟩ := step_of_programmed hr st acked
  refine ⟨t, h, idle, noRequest, quiet, fccDone_of_completes hr h (.inl st) acked, ledger, fun k b hb => ?_,
    fun i lo hi' => ?_, fun a out => ?_⟩
  · rw [flash, Nat.add_assoc]
    exact flashRead_pageImage hi.flash_wf _ (pageImage_word _ k hb)
  · rw [flash]
    exact flashRead_pageImage hi.flash_wf _ (pageImage_pad _ lo hi')
  · rw [flash]
    exact flashRead_writeBytes_outside _ _ _ _ (by rw [pageImage_length]; exact out)

/-- A read acknowledged loads the words of `fl_rdata` (R215). -/
theorem step_of_loaded {s : State} (hr : (input s).rst = false) (st : s.fccState = .loading) (ack : flAcked s = true) :
    ∃ t, step s = .next t ∧ t.fccState = .idle ∧ t.flPend = false ∧ t.flIssue = false ∧ t.flash = s.flash ∧
      t.ledger = unpackLedger (input s).flRdata := by
  obtain ⟨b, h, held, quiet, -⟩ := step_of_busy hr (by simp [st])
  have fcc := fccStep_of_loaded b st ack
  exact ⟨_, h, by simp [fcc], by simp [fcc], by simp [fcc, quiet], by simp [fcc, held.flash], by simp [fcc]⟩

/-- Settles O48: LEDGER is `fl_rdata` unpacked, word by word. -/
theorem readAcknowledgedLoadsTheLedger : Obligations.ReadAcknowledgedLoadsTheLedger := by
  intro s hr st pend past ack
  have acked : flAcked s = true := (flAcked_iff s).mpr ⟨pend, past, ack⟩
  obtain ⟨t, h, idle, noRequest, quiet, flash, ledger⟩ := step_of_loaded hr st acked
  refine ⟨t, h, idle, noRequest, quiet, fccDone_of_completes hr h (.inr st) acked, flash, fun k b hb => ?_⟩
  rw [ledger]
  exact unpackLedger_byte _ k hb

/-! ## A flash that never acknowledges -/

/-- A busy FCC without an acknowledgement waits (R218). -/
theorem step_of_unacked {s t : State} (hr : (input s).rst = false) (busy : s.fccState ≠ .idle) (no : flAcked s = false)
    (h : step s = .next t) : FccHeld s t ∧ t.flIssue = false := by
  obtain ⟨b, hb, held, quiet, -⟩ := step_of_busy hr busy
  obtain rfl := Host.Outcome.next.inj (hb.symm.trans h)
  have fcc := fccStep_of_unacked b no
  exact ⟨⟨by simp [fcc, held.state], by simp [fcc, held.pend], by simp [fcc, held.op], by simp [fcc, held.ledger],
    by simp [fcc, held.flash]⟩, by simp [fcc, quiet]⟩

/-- During a commit `irq` is 0 (R216). -/
theorem irq_of_hold {s : State} (hold : irqHold s = true) : irq s = false := by simp [irq, hold]

/-- Settles O49, by induction on the cycles: each of them waits. -/
theorem unacknowledgedFlashKeepsFccBusy : Obligations.UnacknowledgedFlashKeepsFccBusy := by
  intro n s t busy premise h
  have waiting : FccHeld s t ∧ (n ≠ 0 → t.flIssue = false) :=
    run_induction (P := fun m u => FccHeld s u ∧ (m ≠ 0 → u.flIssue = false))
      ⟨.refl s, fun moved => absurd rfl moved⟩ (fun m u v _ ⟨held, _⟩ ⟨hr, no⟩ hv => by
        obtain ⟨next, quiet⟩ := step_of_unacked hr (held.state ▸ busy) ((flAcked_eq_false_iff u).mpr no) hv
        exact ⟨held.trans next, fun _ => quiet⟩) premise h
  obtain ⟨held, quiet⟩ := waiting
  refine ⟨held.state, held.pend, held.op, held.ledger, held.flash, fun hold => irq_of_hold ?_, quiet⟩
  rw [← hold, irqHold, irqHold, held.state]

/-! ## The round trip -/

/-- No commit is under way, and the page holds the words. -/
structure PageKept (l : Vector Word 15) (s : State) : Prop where
  noCommit : s.fccState = .idle ∨ s.fccState = .loading
  page : PageHolds l s

/-- FccStep leaves IDLE and LOADING for IDLE alone (R215). -/
theorem FccEffect.noCommit {S a t : State} (k : FccEffect S a t) (st : S.fccState = .idle ∨ S.fccState = .loading)
    (ha : a.fccState = .idle ∨ a.fccState = .loading) : t.fccState = .idle ∨ t.fccState = .loading := by
  cases k
  case wait => exact ha
  case erased erasing _ => simp [erasing] at st
  case programmed => exact .inl rfl
  case loaded => exact .inl rfl

/-- Without a COMMIT no commit begins (R221). -/
theorem step_noCommit {s t : State} (hr : (input s).rst = false) (cmd : hostCommand s ≠ some .commit)
    (st : s.fccState = .idle ∨ s.fccState = .loading) (h : step s = .next t) :
    t.fccState = .idle ∨ t.fccState = .loading := by
  obtain ⟨b, hb, -, rfl⟩ := step_cases hr h
  have host : b.fccState = .idle ∨ b.fccState = .loading := by
    cases hostPhase_run hb
    case commit v access ok _ => exact absurd (hostCommand_eq_some_iff.mpr ⟨v, access, ok⟩) cmd
    case load => exact .inr rfl
    all_goals exact st
  rw [finishCycle_fccState]
  exact (fccStep_effect s b).noCommit st host

theorem PageKept.next {l : Vector Word 15} {s t : State} (k : PageKept l s) (hr : (input s).rst = false)
    (cmd : hostCommand s ≠ some .commit) (h : step s = .next t) : PageKept l t := by
  obtain ⟨keeps, -⟩ := flashAndLedgerHaveOneWriter s t hr h
  have flash : t.flash = s.flash := keeps (.inl (by rcases k.noCommit with st | st <;> simp [st]))
  refine ⟨step_noCommit hr cmd k.noCommit h, ?_⟩
  unfold PageHolds
  rw [flash, (step_reader hr h).params]
  exact k.page

/-- Settles O52: the COMMIT leaves LEDGER in the page, every cycle without another keeps it there, and the LOAD unpacks
it. -/
theorem commitThenLoadRestoresTheLedger : Obligations.CommitThenLoadRestoresTheLedger := by
  intro n s t u w hi hr st ack h premise run hr' loading ack' contract h'
  have committed : PageKept s.ledger t := by
    obtain ⟨t', ht, idle, -, -, -, params, flash⟩ := step_of_programmed hr st ack
    obtain rfl := Host.Outcome.next.inj (ht.symm.trans h)
    refine ⟨.inl idle, fun k b hb => ?_⟩
    rw [flash, params]
    exact flashRead_pageImage hi.flash_wf _ (pageImage_word _ k hb)
  have kept : PageKept s.ledger u := run_induction (P := fun _ => PageKept s.ledger) committed
    (fun m v x _ k ⟨hr, cmd⟩ hx => k.next hr cmd hx) premise run
  obtain ⟨-, -, pinned⟩ := (flAcked_iff u).mp ack'
  obtain ⟨-, -, rdata⟩ := contract pinned
  obtain ⟨w', hw, -, -, -, -, ledger⟩ := step_of_loaded hr' loading ack'
  obtain rfl := Host.Outcome.next.inj (hw.symm.trans h')
  refine ⟨?_, fccDone_of_completes hr' h' (.inr loading) ack'⟩
  rw [ledger, rdata loading, kept.page.unpackLedger_eq]

end Sys2Proof.Machine
end

section
/-! SUPPORT. The bytes and fields of a bus word: where a field stands in a word put together from its fields (R242), which byte
of a register a word carries (R36, R78), and the write data through a field mask (R256). -/

namespace Sys2Proof.Machine

open BitVec (extractLsb'_append_eq_left extractLsb'_append_eq_right)

/-! ## A word put together from its fields -/

/-- Laying `n` bits below a word moves its fields up by `n`. -/
theorem field_above {m n i l : Nat} {a : BitVec m} {b : BitVec n} {f : BitVec l} (h : a.extractLsb' i l = f) :
    (a ++ b).extractLsb' (i + n) l = f := by
  rw [BitVec.extractLsb'_append_eq_of_le (Nat.le_add_left n i), Nat.add_sub_cancel, h]

/-- A register below reserved bits: the register's field, and reserved bits that read 0. -/
theorem zero_append_fields {m n : Nat} (x : BitVec n) :
    (0#m ++ x).extractLsb' 0 n = x ∧ (0#m ++ x).extractLsb' n m = 0 :=
  ⟨extractLsb'_append_eq_right, extractLsb'_append_eq_left⟩

/-- A field of one bit, read as that bit. -/
theorem getLsbD_of_field {n k : Nat} {w : BitVec n} {b : Bool} (h : w.extractLsb' k 1 = BitVec.ofBool b) :
    w.getLsbD k = b := by
  simpa using congrArg (BitVec.getLsbD · 0) h

/-- Byte i of a register stands in its word i / 4 as byte i % 4 (R36, R78). -/
theorem byte_of_word {n : Nat} (x : BitVec n) (i : Nat) :
    (x.extractLsb' (32 * (i / 4)) 32).extractLsb' (8 * (i % 4)) 8 = x.extractLsb' (8 * i) 8 := by
  apply BitVec.eq_of_getLsbD_eq
  intro j hj
  have inWord : 8 * (i % 4) + j < 32 := by omega
  have place : 32 * (i / 4) + (8 * (i % 4) + j) = 8 * i + j := by omega
  simp [hj, inWord, place]

/-! ## The write data through a field mask -/

theorem zero_append_toNat {m n : Nat} (x : BitVec n) : (0#m ++ x).toNat = x.toNat := by
  simp [BitVec.toNat_append]

/-- A word whose value is that of the low `n` bits of `v` is `v` masked to them. -/
theorem eq_and_mask {n : Nat} {w v m : Word} (low : w.toNat = (v.extractLsb' 0 n).toNat) (mask : m.toNat = 2 ^ n - 1) :
    w = v &&& m := by
  apply BitVec.eq_of_toNat_eq
  rw [low, BitVec.toNat_and, mask, Nat.and_two_pow_sub_one_eq_mod, BitVec.extractLsb'_toNat, Nat.shiftRight_zero]

/-- The word of CTRL, when CTRL holds the low bits of `v` (R25). -/
theorem ctrlWord_of_low_bits {s : State} {v : Word} (h : s.ctrl = v.extractLsb' 0 4) : ctrlWord s = v &&& 0xF :=
  eq_and_mask (n := 4) (by rw [ctrlWord, zero_append_toNat, h]) rfl

/-- The word of IRQ_EN, when IRQ_EN holds the low bits of `v` (R28). -/
theorem irqEnWord_of_low_bits {s : State} {v : Word} (h : s.irqEn = v.extractLsb' 0 5) : irqEnWord s = v &&& 0x1F :=
  eq_and_mask (n := 5) (by rw [irqEnWord, zero_append_toNat, h]) rfl

/-! ## The words of STATUS, KEY, ERR and the UID (R26, R34 to R36) -/

/-- STATUS, field by field, each above the fields before it (R26). -/
theorem statusWord_fields (s : State) :
    (statusWord s).extractLsb' 0 2 = kpStateCode s.kpState ∧ (statusWord s).extractLsb' 2 2 = 0
    ∧ (statusWord s).extractLsb' 4 3 = tagStateCode s.tagState ∧ (statusWord s).getLsbD 7 = s.rdPend
    ∧ (statusWord s).extractLsb' 8 2 = fccStateCode s.fccState ∧ (statusWord s).getLsbD 10 = fccBusy s
    ∧ (statusWord s).getLsbD 11 = irqHold s ∧ (statusWord s).extractLsb' 12 4 = 0
    ∧ (statusWord s).extractLsb' 16 4 = s.sticky ∧ (statusWord s).extractLsb' 20 12 = 0 := by
  unfold statusWord
  refine ⟨?_, ?_, ?_, getLsbD_of_field ?_, ?_, getLsbD_of_field ?_, getLsbD_of_field ?_, ?_, ?_, ?_⟩
  · exact extractLsb'_append_eq_right
  · apply field_above
    exact extractLsb'_append_eq_right
  · iterate 2 apply field_above
    exact extractLsb'_append_eq_right
  · iterate 3 apply field_above
    exact extractLsb'_append_eq_right
  · iterate 4 apply field_above
    exact extractLsb'_append_eq_right
  · iterate 5 apply field_above
    exact extractLsb'_append_eq_right
  · iterate 6 apply field_above
    exact extractLsb'_append_eq_right
  · iterate 7 apply field_above
    exact extractLsb'_append_eq_right
  · iterate 8 apply field_above
    exact extractLsb'_append_eq_right
  · iterate 8 apply field_above
    exact extractLsb'_append_eq_left

theorem keyWord_fields (s : State) :
    (keyWord s).extractLsb' 0 4 = s.keyCode ∧ (keyWord s).extractLsb' 4 4 = 0 ∧ (keyWord s).extractLsb' 8 4 = s.keyRow
    ∧ (keyWord s).extractLsb' 12 4 = s.keyCol ∧ (keyWord s).extractLsb' 16 16 = 0 :=
  ⟨extractLsb'_append_eq_right,
    field_above extractLsb'_append_eq_right,
    field_above (field_above extractLsb'_append_eq_right),
    field_above (field_above (field_above extractLsb'_append_eq_right)),
    field_above (field_above (field_above extractLsb'_append_eq_left))⟩

theorem errWord_fields (s : State) :
    (errWord s).extractLsb' 0 3 = s.tagCause ∧ (errWord s).extractLsb' 3 5 = 0 ∧ (errWord s).extractLsb' 8 3 = s.cmdCause
    ∧ (errWord s).extractLsb' 11 5 = 0 ∧ (errWord s).extractLsb' 16 3 = s.busCause ∧ (errWord s).extractLsb' 19 13 = 0 :=
  ⟨extractLsb'_append_eq_right,
    field_above extractLsb'_append_eq_right,
    field_above (field_above extractLsb'_append_eq_right),
    field_above (field_above (field_above extractLsb'_append_eq_right)),
    field_above (field_above (field_above (field_above extractLsb'_append_eq_right))),
    field_above (field_above (field_above (field_above extractLsb'_append_eq_left)))⟩

/-- The words TAG_UID0 to TAG_UID2 answer are the three words of the UID, its bits past 79 being 0 (R36). -/
theorem uidWords_eq (s : State) :
    [s.tagUid0, s.tagUid1, uid2Word s] = List.ofFn fun k : Fin 3 => (tagUid s).extractLsb' (32 * k) 32 := by
  have word0 : (tagUid s).extractLsb' 0 32 = s.tagUid0 := extractLsb'_append_eq_right
  have word1 : (tagUid s).extractLsb' 32 32 = s.tagUid1 := field_above extractLsb'_append_eq_right
  have top : (tagUid s).extractLsb' 64 32 = s.tagUid2.extractLsb' 0 32 := field_above (field_above rfl)
  have word2 : (tagUid s).extractLsb' 64 32 = uid2Word s := by
    rw [top]
    apply BitVec.eq_of_toNat_eq
    have lt := s.tagUid2.isLt
    rw [uid2Word, zero_append_toNat, BitVec.extractLsb'_toNat, Nat.shiftRight_zero]
    omega
  simp [List.ofFn_succ, word0, word1, word2]

end Sys2Proof.Machine
end

section
/-! SUPPORT. The LEDGER accesses by their word, and the CMD write by its command word. -/

namespace Sys2Proof.Machine

/-! ## The LEDGER accesses (R38, R247) -/

/-- The write of LEDGERk. -/
def ledgerWriteAt (v : Word) : Fin 15 → Instr
  | 0 => .wrLedger0 v | 1 => .wrLedger1 v | 2 => .wrLedger2 v | 3 => .wrLedger3 v | 4 => .wrLedger4 v
  | 5 => .wrLedger5 v | 6 => .wrLedger6 v | 7 => .wrLedger7 v | 8 => .wrLedger8 v | 9 => .wrLedger9 v
  | 10 => .wrLedger10 v | 11 => .wrLedger11 v | 12 => .wrLedger12 v | 13 => .wrLedger13 v | 14 => .wrLedger14 v

/-- The read of LEDGERk. -/
def ledgerReadAt : Fin 15 → Instr
  | 0 => .rdLedger0 | 1 => .rdLedger1 | 2 => .rdLedger2 | 3 => .rdLedger3 | 4 => .rdLedger4
  | 5 => .rdLedger5 | 6 => .rdLedger6 | 7 => .rdLedger7 | 8 => .rdLedger8 | 9 => .rdLedger9
  | 10 => .rdLedger10 | 11 => .rdLedger11 | 12 => .rdLedger12 | 13 => .rdLedger13 | 14 => .rdLedger14

theorem exec_ledgerWriteAt (v : Word) (k : Fin 15) (s : State) :
    exec (ledgerWriteAt v k) s = .next (writeLedger k v s) := by
  fin_cases k <;> rfl

theorem exec_ledgerReadAt (k : Fin 15) (s : State) : exec (ledgerReadAt k) s = .next (respondRead (ledgerWord k s) s) := by
  fin_cases k <;> rfl

theorem writeLedger_of_idle {s : State} (k : Fin 15) (v : Word) (idle : s.fccState = .idle) :
    writeLedger k v s = respondWrite { s with ledger := s.ledger.set k v } := by
  simp [writeLedger, fccBusy, idle]

theorem writeLedger_of_busy {s : State} (k : Fin 15) (v : Word) (busy : s.fccState ≠ .idle) :
    writeLedger k v s = busError .fccBusyWrite s := by
  simp [writeLedger, fccBusy, busy]

/-- What LEDGER holds after a write of word `k`. -/
theorem ledger_set_getElem (l : Vector Word 15) (k : Fin 15) (v : Word) (j : Fin 15) :
    (l.set k v)[j] = if j = k then v else l[j] := by
  simp [Vector.getElem_set, Fin.ext_iff, eq_comm]

/-! ## The CMD write (R248, R249) -/

/-- A command neither reads nor writes the answer of its CMD write (R248). -/
theorem exec_command_respondWrite (c : Command) (s : State) :
    ∃ t, exec c.instr s = .next t ∧ exec c.instr (respondWrite s) = .next (respondWrite t) := by
  cases c with
  | nop => exact ⟨s, rfl, rfl⟩
  | sessionClose =>
    by_cases opened : tagEn s = true ∧ s.tagState = .present
    · obtain ⟨en, st⟩ := opened
      exact ⟨_, exec_sessionClose_of_present en st, exec_sessionClose_of_present (s := respondWrite s) en st⟩
    · have no : tagEn s = false ∨ s.tagState ≠ .present := by simpa [imp_iff_not_or] using opened
      exact ⟨_, exec_sessionClose_of_not_present no, exec_sessionClose_of_not_present (s := respondWrite s) no⟩
  | commit =>
    by_cases idle : s.fccState = .idle
    · exact ⟨_, exec_commit_of_idle idle, exec_commit_of_idle (s := respondWrite s) idle⟩
    · exact ⟨_, exec_commit_of_busy idle, exec_commit_of_busy (s := respondWrite s) idle⟩
  | load =>
    by_cases idle : s.fccState = .idle
    · exact ⟨_, exec_load_of_idle idle, exec_load_of_idle (s := respondWrite s) idle⟩
    · exact ⟨_, exec_load_of_busy idle, exec_load_of_busy (s := respondWrite s) idle⟩
  | setSwctx => exact ⟨setFlag .swctx s, rfl, rfl⟩

/-- A CMD write leaves what its command leaves, with the answer of an accepted write (R248). -/
theorem exec_wrCmd_of_command {v : Word} {c : Command} (cmd : decodeCmd v = .ok c) (s : State) :
    ∃ t, exec c.instr s = .next t ∧ exec (.wrCmd v) s = .next (respondWrite t) := by
  obtain ⟨t, ht, answered⟩ := exec_command_respondWrite c s
  exact ⟨t, ht, (execWrCmd_of_command cmd s).trans answered⟩

theorem decodeCmd_of_reserved_bits {v : Word} (h : 256 ≤ v.toNat) : decodeCmd v = .error .reservedBits := by
  have reserved : reservedBitsClear v = false := by
    rw [← Bool.not_eq_true, reservedBitsClear_iff]
    omega
  simp [decodeCmd, reserved]

/-- A word without reserved bits whose OP is none of R103's is refused for its OP. -/
theorem decodeCmd_of_reserved_op {v : Word} (lo : 5 ≤ v.toNat) (hi : v.toNat < 256) :
    decodeCmd v = .error .reservedOp := by
  have clear : reservedBitsClear v = true := (reservedBitsClear_iff v).mpr hi
  simp only [decodeCmd, clear, opField_toNat hi, Bool.not_true, Bool.false_eq_true, if_false]
  split
  case h_6 => rfl
  all_goals omega

/-- A malformed command word is recorded and the CMD write accepted (R249). -/
theorem exec_wrCmd_of_malformed {v : Word} {c : CmdCause} (bad : decodeCmd v = .error c) (s : State) :
    exec (.wrCmd v) s = .next (respondWrite (raise (.cmd c) s)) := by
  simp [exec, execWrCmd, bad]

end Sys2Proof.Machine
end

section
/-! PROOFS. The obligations on the host bus: what a read answers, what a LEDGER write and a CMD write leave, and that a read in
the next cycle answers what was written. -/

namespace Sys2Proof.Machine

/-! ## Reads -/

/-- Settles O11: each read answers its word, and the fields of each word stand where R25 to R35 put them. -/
theorem fieldReadsAnswerTheFields : Obligations.FieldReadsAnswerTheFields := by
  intro s
  refine ⟨rfl, rfl, ⟨ctrlWord s, rfl, zero_append_fields s.ctrl⟩, ⟨flagsWord s, rfl, zero_append_fields s.flags⟩,
    ⟨irqEnWord s, rfl, zero_append_fields s.irqEn⟩, ⟨statusWord s, rfl, ?_⟩, ⟨keyWord s, rfl, keyWord_fields s⟩,
    ⟨errWord s, rfl, errWord_fields s⟩⟩
  obtain ⟨kp, reserved2, tag, pend, fcc, busy, hold, reserved12, sticky, reserved20⟩ := statusWord_fields s
  have kpCode {st : KpState} (h : s.kpState = st) : (statusWord s).extractLsb' 0 2 = kpStateCode st := h ▸ kp
  have tagCode {st : TagState} (h : s.tagState = st) : (statusWord s).extractLsb' 4 3 = tagStateCode st := h ▸ tag
  have fccCode {st : FccState} (h : s.fccState = st) : (statusWord s).extractLsb' 8 2 = fccStateCode st := h ▸ fcc
  have busyBit : (statusWord s).getLsbD 10 = true ↔ s.fccState ≠ .idle := by rw [busy, fccBusy_iff]
  have holdBit : (statusWord s).getLsbD 11 = true ↔ s.fccState = .erasing ∨ s.fccState = .programming := by
    rw [hold, irqHold, Bool.or_eq_true, beq_iff_eq, beq_iff_eq]
  exact ⟨kpCode, kpCode, kpCode, reserved2, tagCode, tagCode, tagCode, tagCode, tagCode, pend, fccCode, fccCode, fccCode,
    fccCode, busyBit, holdBit, reserved12, sticky, reserved20⟩

/-- Settles O12: the word of each read is its register, and the meaning of no read looks at FCC. -/
theorem wordReadsAnswerTheRegister : Obligations.WordReadsAnswerTheRegister := by
  intro s
  have word (k : Fin 15) := exec_ledgerReadAt k s
  exact ⟨rfl, rfl, rfl, rfl, rfl, rfl, rfl, rfl, word 0, word 1, word 2, word 3, word 4, word 5, word 6, word 7, word 8,
    word 9, word 10, word 11, word 12, word 13, word 14⟩

/-- Settles O13: the three UID reads answer the words of the 80-bit UID, so their bytes are its bytes. -/
theorem tagSessionReadsAnswerTheBytes : Obligations.TagSessionReadsAnswerTheBytes := by
  intro s
  refine ⟨⟨uidlenWord s, rfl, zero_append_fields s.tagUidlen⟩,
    ⟨s.tagUid0, s.tagUid1, uid2Word s, rfl, rfl, rfl, BitVec.extractLsb'_append_eq_left, fun i hi => ?_⟩,
    rfl, rfl, rfl, rfl⟩
  have inUid : i / 4 < 3 := by omega
  rw [uidWords_eq, List.getElem?_ofFn, dif_pos inUid, Option.map_some, byte_of_word]

/-! ## Writes -/

/-- Settles O16: each of the fifteen writes is `writeLedger` of its word, which FCC's state decides. -/
theorem ledgerWritesOnlyWhileFccIdle : Obligations.LedgerWritesOnlyWhileFccIdle := by
  intro s v k i access
  obtain ⟨k', pair⟩ : ∃ k' : Fin 15, (k'.val, ledgerWriteAt v k') = (k.val, i) := List.mem_ofFn.mp access
  obtain ⟨hk, rfl⟩ := Prod.mk.inj pair
  obtain rfl := Fin.ext hk
  rw [exec_ledgerWriteAt]
  constructor
  · intro idle
    rw [writeLedger_of_idle k' v idle]
    exact ⟨s.ledger.set k' v, rfl, ledger_set_getElem s.ledger k' v⟩
  · intro busy
    rw [writeLedger_of_busy k' v busy]
    rfl

/-- Settles O18: the five words are the commands' words, and a command does not depend on the answer it is given with. -/
theorem cmdWriteRunsTheCommand : Obligations.CmdWriteRunsTheCommand := fun s =>
  ⟨exec_wrCmd_of_command (c := .nop) rfl s, exec_wrCmd_of_command (c := .sessionClose) rfl s,
    exec_wrCmd_of_command (c := .commit) rfl s, exec_wrCmd_of_command (c := .load) rfl s,
    exec_wrCmd_of_command (c := .setSwctx) rfl s⟩

/-- Settles O19: the decoder rejects the word with the cause of its range, and the CMD write raises that cause alone. -/
theorem malformedCommandOnlyRecordsItsCause : Obligations.MalformedCommandOnlyRecordsItsCause := fun s _ =>
  ⟨fun bits => exec_wrCmd_of_malformed (decodeCmd_of_reserved_bits bits) s,
    fun lo hi => exec_wrCmd_of_malformed (decodeCmd_of_reserved_op lo hi) s⟩

/-! ## A read in the cycle after a write -/

/-- A read answers its register `reg` at the start of its cycle: what the cycle before, whose access left `b`, ends with. -/
theorem busResponse_after_access {s t b : State} {i j : Instr} {reg : State → Word} {d : Word} (hr : (input s).rst = false)
    (hr' : (input t).rst = false) (h : step s = .next t) (write : fetch s = .run i) (wrote : exec i (beginCycle s) = .next b)
    (read : fetch t = .run j) (answers : ∀ x, exec j x = .next (respondRead (reg x) x))
    (value : reg (beginCycle (finishCycle s b)) = d) : busResponse t = (d, false) := by
  obtain rfl : finishCycle s b = t := Host.Outcome.next.inj ((step_of_fetch hr write wrote).symm.trans h)
  rw [busResponse_of_hostPhase hr' ((hostPhase_of_run read).trans (answers _)), respondRead_busRdata, respondRead_busErr, value]

/-- A LEDGER word written while FCC is idle is in the next cycle what was written (R247): an idle FCC writes none. -/
theorem ledgerWord_after_write {s : State} (k : Fin 15) (v : Word) (idle : s.fccState = .idle) :
    ledgerWord k (finishCycle s (writeLedger k v (beginCycle s))) = v := by
  rw [ledgerWord, finishCycle_ledger, fccStep_of_idle _ idle, writeLedger_of_idle k v (s := beginCycle s) idle,
    respondWrite_ledger, ledger_set_getElem, if_pos rfl]

/-- Settles O10: no sub-unit writes the six registers, and an idle FCC does not write LEDGER, so the next cycle begins with
what the write left. -/
theorem readReturnsTheLastWrite : Obligations.ReadReturnsTheLastWrite := by
  intro s t v hr hr' h
  refine ⟨fun write read => ?ctrl, fun write read => ?irqEn, fun write read => ?dbPeriod, fun write read => ?pollPeriod,
    fun write read => ?xcvTimeout, fun write read => ?dispPeriod, fun i j pair idle write read => ?ledger⟩
  case ctrl =>
    exact busResponse_after_access hr hr' h write rfl read (fun _ => rfl) (ctrlWord_of_low_bits (finishCycle_ctrl s _))
  case irqEn =>
    exact busResponse_after_access hr hr' h write rfl read (fun _ => rfl) (irqEnWord_of_low_bits (finishCycle_irqEn s _))
  case dbPeriod => exact busResponse_after_access hr hr' h write rfl read (fun _ => rfl) (finishCycle_dbPeriod s _)
  case pollPeriod => exact busResponse_after_access hr hr' h write rfl read (fun _ => rfl) (finishCycle_pollPeriod s _)
  case xcvTimeout => exact busResponse_after_access hr hr' h write rfl read (fun _ => rfl) (finishCycle_xcvTimeout s _)
  case dispPeriod => exact busResponse_after_access hr hr' h write rfl read (fun _ => rfl) (finishCycle_dispPeriod s _)
  case ledger =>
    obtain ⟨k, hk⟩ : ∃ k : Fin 15, (ledgerWriteAt v k, ledgerReadAt k) = (i, j) := List.mem_ofFn.mp pair
    obtain ⟨rfl, rfl⟩ := Prod.mk.inj hk
    exact busResponse_after_access hr hr' h write (exec_ledgerWriteAt v k _) read (exec_ledgerReadAt k)
      (ledgerWord_after_write k v idle)

end Sys2Proof.Machine
end

section
/-! PROOFS. The obligations on the timers and on the interrupt output: the prescaler's wrap, the display timer over a cycle, and
`irq` bit by bit. -/

namespace Sys2Proof.Machine

/-! ## The prescaler and the display timer -/

/-- A tick is the cycle in which the prescaler stands at TICK_CYCLES - 1 (R295). -/
theorem tick_iff (s : State) : tick s = true ↔ s.presc + 1 = s.params.tickCycles := by simp [tick, Params.tickCycles]

theorem prescNext_eq (s : State) : prescNext s = if s.presc + 1 = s.params.tickCycles then 0 else s.presc + 1 := by
  simp only [prescNext, tick_iff]

/-- DispStep's part of the display counter (R298). -/
theorem dispStep_dispCount (S a : State) : (dispStep S a).dispCount =
    if dispEn S = false then 0
    else if S.dispCount = 0 then load S.dispPeriod
    else if tick S = true then (if S.dispCount = 1 then load S.dispPeriod else S.dispCount - 1)
    else a.dispCount := by
  unfold dispStep
  cases dispEn S with
  | false => rfl
  | true =>
    by_cases stopped : S.dispCount = 0#32
    · simp [stopped]
    · by_cases ticked : tick S = true
      · by_cases last : S.dispCount = 1#32 <;> simp [stopped, ticked, last]
      · simp [stopped, ticked]

/-- KPD, TAG and FCC do not write the display counter (R51). -/
theorem finishCycle_dispCount (S a : State) : (finishCycle S a).dispCount = (dispStep S a).dispCount :=
  dispStep_dispCount_congr S (a := fccStep S (tagStep S (kpdStep S a))) (b := a) (by simp)

theorem displayExpires_iff (s : State) : displayExpires s = true ↔
    dispEn s = true ∧ s.presc + 1 = s.params.tickCycles ∧ s.dispCount = 1 := by
  simp [displayExpires, tick_iff, and_assoc]

/-- Settles O56: the host's part writes neither counter, so DispStep's equation and the prescaler's give the counters after the
cycle, and the flag equation gives INV_TICK. -/
theorem displayTimerTicksPeriodically : Obligations.DisplayTimerTicksPeriodically := by
  intro s hr
  obtain ⟨b, hb, host⟩ := hostPhase_effect s
  have next := step_of_hostPhase hr hb
  have kept : b.dispCount = s.dispCount := (HostEffect_dispCount host :)
  refine ⟨finishCycle s b, next, tick_iff s, ?presc, ?dispCount, ?invTick⟩
  case presc => rw [finishCycle_presc, prescNext_eq]
  case dispCount => simp only [finishCycle_dispCount, dispStep_dispCount, kept, tick_iff, load]
  case invTick => simp [step_flagSet hr next .invTick, flagEvent, displayExpires_iff]

/-! ## The interrupt output -/

/-- Two words have a bit in common exactly when their conjunction is not 0. -/
theorem and_ne_zero_iff {w : Nat} (x y : BitVec w) :
    x &&& y ≠ 0 ↔ ∃ i, i < w ∧ x.getLsbD i = true ∧ y.getLsbD i = true := by
  rw [ne_eq, BitVec.eq_of_getLsbD_eq_iff]
  simp

/-- The commit hold is off exactly when FCC neither erases nor programs (R216). -/
theorem irqHold_eq_false_iff (s : State) : irqHold s = false ↔ s.fccState ≠ .erasing ∧ s.fccState ≠ .programming := by
  simp [irqHold]

/-- Settles O54: the masked flags have a bit in common with the enables, and the commit hold is off. -/
theorem irqIsTheMaskedOrOutsideACommit : Obligations.IrqIsTheMaskedOrOutsideACommit := by
  intro s
  calc (outputs s).irq = true
    _ ↔ s.flags &&& s.irqEn ≠ 0 ∧ irqHold s = false := by simp [outputs, irq]
    _ ↔ _ := by rw [and_ne_zero_iff, irqHold_eq_false_iff]

end Sys2Proof.Machine
end

section
/-! PROOFS. The obligations on reset: the values of ResetState (R321), that it meets the invariant, and the cycle of `rst` (R320,
R322 to R324). -/

namespace Sys2Proof.Machine

/-! ## ResetState -/

/-- Settles O57: each register word is put together from fields of ResetState, and every field holds its literal. -/
theorem resetStateHoldsTheValues : Obligations.ResetStateHoldsTheValues := by
  refine ⟨?words, ⟨rfl, rfl, rfl, rfl⟩, ⟨rfl, rfl, rfl, rfl⟩, ⟨?session, ?ledger⟩, ⟨rfl, rfl, rfl⟩,
    ⟨rfl, rfl, rfl, rfl, rfl, rfl, rfl, rfl⟩, ⟨rfl, rfl, rfl, rfl, rfl⟩, ?id⟩
  case words => exact ⟨rfl, rfl, rfl, rfl, rfl, rfl⟩
  case session => rfl
  case ledger => exact fun k => Vector.getElem_replicate k.isLt
  case id => rfl

/-- Settles O59: no request, debounce cycle or error is held, so the clauses on them ask nothing; KEY, the UID and the flash array
are empty. -/
theorem invariantHoldsAtReset : Obligations.InvariantHoldsAtReset where
  presc_lt := Nat.succ_pos _
  rows_counting := nofun
  not_rows_stopped := fun _ => rfl
  rows_key_clear := nofun
  key_decoded := .inl ⟨rfl, rfl, rfl⟩
  rd_pend_state := nofun
  rd_state_pend := nofun
  rd_issue_pend := nofun
  rd_abort_free := nofun
  xcv_running := iff_of_false nofun (fun running => running rfl)
  uid_held := nofun
  uidlen_le := Nat.zero_le _
  uid_tail := fun _ _ _ => BitVec.extractLsb'_zero
  fl_pend_state := rfl
  fl_op_state := ⟨nofun, nofun, nofun⟩
  fl_issue_pend := nofun
  causes_legal := ⟨Nat.zero_le _, Nat.zero_le _, Nat.zero_le _⟩
  sticky_cause := ⟨nofun, nofun, nofun⟩
  flash_wf := flashWf_reset
  flash_bound := nofun

/-! ## The cycle of `rst` -/

theorem busResponse_of_reset {s : State} (hr : (input s).rst = true) : busResponse s = (0, false) := if_pos hr

/-- Outside a commit a reset keeps the flash array (R323). -/
theorem resetCycle_flash_of_no_hold {s : State} (hold : irqHold s = false) : (resetCycle s).flash = s.flash := by
  simp [resetCycle, hold]

/-- A reset that breaks off a commit stores free bytes over the ledger sector (R219, R324). -/
theorem resetCycle_flash_of_hold {s : State} (hold : irqHold s = true) : (resetCycle s).flash =
    flashWriteBytes s.flash (sectorBase s.params) (freeBytes s.freeIdx sectorBytes) := by
  simp [resetCycle, hold, sectorFreed_flash]

/-- The ledger sector is the last of the flash array (R79). -/
theorem sectorBase_add_sectorBytes (p : Params) : sectorBase p + sectorBytes = p.flashSize := by
  rw [sectorBase_eq, Params.flashSize, sectorBytes]
  omega

/-- A reset keeps every byte outside the ledger sector, also when it breaks off a commit. -/
theorem flashRead_resetCycle_outside (s : State) {a : Nat} (out : a < sectorBase s.params ∨ s.params.flashSize ≤ a) :
    flashRead (resetCycle s).flash a = flashRead s.flash a := by
  cases hold : irqHold s with
  | false => rw [resetCycle_flash_of_no_hold hold]
  | true =>
    rw [resetCycle_flash_of_hold hold]
    exact flashRead_writeBytes_outside _ _ _ _ (by rwa [freeBytes_length, sectorBase_add_sectorBytes])

/-- With no flag pending the interrupt output is 0 (R288). -/
theorem irq_of_no_flags {s : State} (clear : s.flags = 0) : irq s = false := by simp [irq, clear]

/-- Settles O58: `resetCycle` is ResetState but for the four fields named; its output pins are those of ResetState, and the
rules on its flash array give the rest. -/
theorem resetReturnsResetState : Obligations.ResetReturnsResetState := by
  intro s hr
  exact ⟨resetCycle s, step_of_reset hr, busResponse_of_reset hr, rfl, resetCycle_flash_of_no_hold,
    fun _ out => flashRead_resetCycle_outside s out, rfl, irq_of_no_flags rfl, rfl, rfl, rfl⟩

end Sys2Proof.Machine
end
